-- ==== Sys2Proof/Word.lean ====
section
/-! DEFINITION. The word types of the LR35902 core: the 8-bit data word and the 16-bit address (00_scope.md R10, R12). -/

namespace Sys2Proof

/-- An 8-bit data word, `u8` of R12. -/
abbrev Byte := BitVec 8

/-- A 16-bit word: a register pair, SP, PC or an address, `u16` of R12. -/
abbrev Word := BitVec 16

/-- `v[7:0]` of a word (R12). -/
def Word.lo (w : Word) : Byte := w.extractLsb' 0 8

/-- `v[15:8]` of a word (R12). -/
def Word.hi (w : Word) : Byte := w.extractLsb' 8 8

/-- `hi : lo`, the concatenation of R12 with `hi` in the high bits. -/
def Word.ofBytes (hi lo : Byte) : Word := hi ++ lo

end Sys2Proof
end

