-- ==== Sys2Proof/Config.lean ====
section
/-! DEFINITION. The free values: every `draw` of the spec (00_scope.md R18) that a running machine meets, and
the one result the spec does not state. Each is a constant without a body, so that nothing in Lean can evaluate it:
a statement about it holds for every value. -/

namespace Sys2Proof.Config

/-- FREE VALUE. What a read of 0xFEA0-0xFEFF returns (20_memory.md R83, decision D12), by the cycle counter at the
read and the address: reads in one step are idempotent (R95) and reads of different steps are unrelated.
DESIGN CHOICE, notes/assumptions/1.md. -/
opaque unusableRead : Nat → Word → Byte

/-- FREE VALUE. What an enabled external-RAM read returns on MBC3 with `ram_sel` above 3 (20_memory.md R123, R130), by
the cycle counter, `ram_sel` and the address. DESIGN CHOICE, notes/assumptions/1.md. -/
opaque mbc3ClockRead : Nat → BitVec 4 → Word → Byte

/-- FREE VALUE. The byte a finished serial transfer leaves in SB (60_exceptions.md R575, decision D34), by the cycle
counter at the end of the transfer. DESIGN CHOICE, notes/assumptions/1.md. -/
opaque serialByte : Nat → Byte

/-- FREE VALUE. The envelope timer after R663 decrements it from 0: the rule states `env_timer - 1` and the register
holds 0..8 (10_state.md R76), so no result is stated. By the cycle counter and the channel number.
DESIGN CHOICE, notes/assumptions/2.md. -/
opaque envTimerBelowZero : Nat → Nat → Fin 9

end Sys2Proof.Config
end

