-- ==== Sys2Proof/Machine/State.lean ====
section
/-! DEFINITION. The state of the core as plain data: every piece of state that 10_state.md and 20_memory.md name
(INVENTORY.md lists them one by one), the outcomes a step can have beside a next state, and the state after reset. -/

namespace Sys2Proof.Machine

/-- A backing memory (20_memory.md R80): the bytes that are not 0x00, as (offset, byte) pairs, offsets strictly rising.
A byte that is not listed reads 0x00 (notes/assumptions/3.md). -/
abbrev Store := List Host.Cell

/-- The register file (10_state.md R30-R36). F is the four flags of R32; its bits 3-0 read 0 and are not stored. -/
structure Regs where
  a : Byte
  b : Byte
  c : Byte
  d : Byte
  e : Byte
  h : Byte
  l : Byte
  /-- F bit 7, Z. -/
  fz : Bool
  /-- F bit 6, N. -/
  fn : Bool
  /-- F bit 5, H. -/
  fh : Bool
  /-- F bit 4, C. -/
  fc : Bool
  sp : Word
  pc : Word
  deriving DecidableEq, Repr

/-- The CPU control state (10_state.md R40-R45). -/
structure Control where
  ime : Bool
  imeSched : Bool
  halted : Bool
  stopped : Bool
  locked : Bool
  haltbugPending : Bool
  deriving DecidableEq, Repr

/-- The interrupt registers (10_state.md R50, R51): the five stored bits of IF, and IE whole. -/
structure Interrupts where
  iflag : BitVec 5
  ie : Byte
  deriving DecidableEq, Repr

/-- The divider and timer (10_state.md R52-R56). DIV is a view of `sys`. TAC keeps its three writable bits. -/
structure Timer where
  sys : BitVec 14
  tima : Byte
  tma : Byte
  tac : BitVec 3
  deriving DecidableEq, Repr

/-- The joypad unit (10_state.md R57, R59): P1's stored bits 5-4, the host's two masks and `p1_last`. -/
structure Joypad where
  sel : BitVec 2
  buttons : BitVec 4
  dirs : BitVec 4
  last : BitVec 4
  deriving DecidableEq, Repr

/-- The serial unit (10_state.md R58, R59): SB, SC's bits 7 and 0, and `ser_count`. -/
structure Serial where
  sb : Byte
  start : Bool
  clock : Bool
  count : Nat
  deriving DecidableEq, Repr

/-- The four PictureTimer modes (10_state.md R61). -/
inductive Mode where
  /-- Mode 0. -/
  | hblank
  /-- Mode 1. -/
  | vblank
  /-- Mode 2. -/
  | oamSearch
  /-- Mode 3. -/
  | transfer
  deriving DecidableEq, Repr

/-- One selected sprite of a line descriptor: its OAM index and its four bytes (60_exceptions.md R640). -/
structure SpriteRecord where
  index : Nat
  y : Byte
  x : Byte
  tile : Byte
  attr : Byte
  deriving DecidableEq, Repr

/-- The record handed to the host for each visible line (60_exceptions.md R640). -/
structure LineRecord where
  ly : Nat
  scx : Byte
  scy : Byte
  wx : Byte
  wy : Byte
  winLine : Byte
  winOn : Bool
  lcdc : Byte
  bgp : Byte
  obp0 : Byte
  obp1 : Byte
  sprites : List SpriteRecord
  deriving DecidableEq, Repr

/-- The picture registers and the PictureTimer (10_state.md R60-R68). `lines` holds the line descriptors handed to the
host and not yet taken by it, newest first (60_exceptions.md R640, 70_reset_and_hazards.md R716). -/
structure Picture where
  lcdc : Byte
  /-- STAT bits 6-3. -/
  statEn : BitVec 4
  scy : Byte
  scx : Byte
  lyc : Byte
  dma : Byte
  bgp : Byte
  obp0 : Byte
  obp1 : Byte
  wy : Byte
  wx : Byte
  ly : Nat
  u : Nat
  mode : Mode
  coinc : Bool
  winLine : Byte
  lineSprites : List Nat
  frameDone : Bool
  offCount : Nat
  lines : List LineRecord
  deriving DecidableEq, Repr

/-- What every sound channel holds (10_state.md R76). -/
structure Channel where
  active : Bool
  len : Nat
  deriving DecidableEq, Repr

/-- The envelope of channels 1, 2 and 4 (10_state.md R76). -/
structure Envelope where
  vol : BitVec 4
  timer : Nat
  deriving DecidableEq, Repr

/-- The frequency sweep of channel 1 (10_state.md R76). -/
structure Sweep where
  shadow : BitVec 11
  timer : Nat
  en : Bool
  deriving DecidableEq, Repr

/-- The record handed to the host once per output sample period (60_exceptions.md R690). -/
structure SampleRecord where
  freq1 : BitVec 11
  vol1 : BitVec 4
  duty1 : BitVec 2
  freq2 : BitVec 11
  vol2 : BitVec 4
  duty2 : BitVec 2
  freq3 : BitVec 11
  level3 : BitVec 2
  wave3 : List Byte
  shift4 : BitVec 4
  divisor4 : BitVec 3
  vol4 : BitVec 4
  width4 : Bool
  nr50 : Byte
  nr51 : Byte
  power : Bool
  deriving DecidableEq, Repr

/-- The sound registers as stored (10_state.md R70-R75) and the SoundTimer (R76). `samples` holds the sample records
handed to the host and not yet taken by it, newest first (60_exceptions.md R690, 70_reset_and_hazards.md R716). -/
structure Sound where
  nr10 : Byte
  nr11 : Byte
  nr12 : Byte
  nr13 : Byte
  nr14 : Byte
  nr21 : Byte
  nr22 : Byte
  nr23 : Byte
  nr24 : Byte
  nr30 : Byte
  nr31 : Byte
  nr32 : Byte
  nr33 : Byte
  nr34 : Byte
  nr41 : Byte
  nr42 : Byte
  nr43 : Byte
  nr44 : Byte
  nr50 : Byte
  nr51 : Byte
  /-- NR52 bit 7. -/
  power : Bool
  ch1 : Channel
  ch2 : Channel
  ch3 : Channel
  ch4 : Channel
  env1 : Envelope
  env2 : Envelope
  env4 : Envelope
  sweep : Sweep
  lfsr : BitVec 15
  fsCount : Nat
  fsStep : Nat
  sampleCount : Nat
  samples : List SampleRecord
  deriving DecidableEq, Repr

/-- The mapper kinds (20_memory.md R121). -/
inductive Mbc where
  | none
  | mbc1
  | mbc2
  | mbc3
  | mbc5
  | fallback
  deriving DecidableEq, Repr

/-- BankState (20_memory.md R121). `ram_banks` is computed from `ramSize`. -/
structure Bank where
  mbc : Mbc
  hasRam : Bool
  hasBattery : Bool
  romBanks : Nat
  ramSize : Nat
  ramEn : Bool
  lo5 : BitVec 5
  hi2 : BitVec 2
  mode1 : Bool
  rom4 : BitVec 4
  rom7 : BitVec 7
  ramSel : BitVec 4
  rom9 : BitVec 9
  ram4 : BitVec 4
  deriving DecidableEq, Repr

/-- The backing memories the MemoryBus owns (10_state.md R79, 20_memory.md R80): the cartridge image, VRAM, external
RAM, MBC2's 4-bit cells, WRAM, OAM, HRAM and wave RAM. The boot overlay is `State.bootRom`. -/
structure Memory where
  rom : Store
  vram : Store
  eram : Store
  ram2 : Store
  wram : Store
  oam : Store
  hram : Store
  wave : Store
  deriving DecidableEq, Repr

/-- The whole machine. `haltBug` and `samplePeriod` are the launch parameters HALT_BUG and SAMPLE_PERIOD (00_scope.md
R11), and `bootRom` is BOOT_ROM; a launch fixes them and no step changes them. -/
structure State where
  regs : Regs
  ctl : Control
  /-- The M-cycle counter, R46. -/
  cycles : Nat
  irq : Interrupts
  timer : Timer
  joy : Joypad
  ser : Serial
  pic : Picture
  snd : Sound
  bank : Bank
  mem : Memory
  bootRom : Option Store
  /-- The boot-ROM-disable latch, R77. -/
  bootOff : Bool
  /-- The host-visible report of an unsupported mapper, 70_reset_and_hazards.md R713. -/
  mapperUnsupported : Bool
  haltBug : Bool
  samplePeriod : Nat
  deriving DecidableEq, Repr

/-- The reasons a step could stop with a fault. There are none: no access faults (20_memory.md R104), no instruction
traps (60_exceptions.md R515), and a locked CPU still steps (70_reset_and_hazards.md R716). -/
inductive Fault where
  deriving DecidableEq, Repr

/-- The reasons a step could be refused. No meaning of this model raises one. -/
inductive Refusal where
  /-- Raised only by `exec`'s own arm of an instruction that has no meaning yet; no arm does so now. Safe: the machine
  stops where the hardware goes on. -/
  | notModelled (mnemonic : String)
  deriving DecidableEq, Repr

/-- What executing one instruction, or one step, answers. -/
abbrev Result := Host.Outcome State Fault Refusal

/-- The register file in post-boot reset (10_state.md R36). -/
def Regs.reset : Regs :=
  { a := 0x01, b := 0x00, c := 0x13, d := 0x00, e := 0xD8, h := 0x01, l := 0x4D
    fz := true, fn := false, fh := true, fc := true, sp := 0xFFFE, pc := 0x0100 }

/-- The CPU control state at reset: all 0 in both modes (10_state.md R40-R45). -/
def Control.reset : Control :=
  { ime := false, imeSched := false, halted := false, stopped := false, locked := false, haltbugPending := false }

/-- Post-boot IF 0x01 and IE 0x00 (10_state.md R50, R51). -/
def Interrupts.reset : Interrupts := { iflag := 0x01, ie := 0x00 }

/-- Post-boot `sys` 0x2AC0 (10_state.md R52-R56). -/
def Timer.reset : Timer := { sys := 0x2AC0, tima := 0x00, tma := 0x00, tac := 0 }

/-- Both joypad groups selected and no key pressed (10_state.md R57, R59). -/
def Joypad.reset : Joypad := { sel := 0, buttons := 0xF, dirs := 0xF, last := 0xF }

/-- The idle serial unit (10_state.md R58, R59). -/
def Serial.reset : Serial := { sb := 0x00, start := false, clock := false, count := 0 }

/-- Post-boot picture registers and PictureTimer (10_state.md R60-R68). OBP0 and OBP1 are draws of the spec, 0x00 here
(notes/assumptions/4.md). The sprite list is that of line 0 with OAM all 0x00 (60_exceptions.md R610). -/
def Picture.reset : Picture :=
  { lcdc := 0x91, statEn := 0, scy := 0x00, scx := 0x00, lyc := 0x00, dma := 0xFF, bgp := 0xFC
    obp0 := 0x00, obp1 := 0x00, wy := 0x00, wx := 0x00, ly := 0, u := 0, mode := .oamSearch, coinc := true
    winLine := 0x00, lineSprites := [], frameDone := false, offCount := 0, lines := [] }

/-- A silent channel. -/
def Channel.off : Channel := { active := false, len := 0 }

/-- An envelope at rest. -/
def Envelope.off : Envelope := { vol := 0, timer := 0 }

/-- A sweep at rest. -/
def Sweep.off : Sweep := { shadow := 0, timer := 0, en := false }

/-- Post-boot sound registers and SoundTimer (10_state.md R75, R76). The draws of the spec (NR13, NR14, NR23, NR24, NR31,
NR33, NR34, NR41, channel 1's len, env_timer, shadow and sweep_timer) are 0 here, and the LFSR is 0x7FFF
(notes/assumptions/4.md); the hidden write-only bits of NR11, NR21 and NR44 are 0 too (DESIGN CHOICE, notes/assumptions/21.md). -/
def Sound.reset : Sound :=
  { nr10 := 0x00, nr11 := 0x80, nr12 := 0xF3, nr13 := 0x00, nr14 := 0x00
    nr21 := 0x00, nr22 := 0x00, nr23 := 0x00, nr24 := 0x00
    nr30 := 0x00, nr31 := 0x00, nr32 := 0x00, nr33 := 0x00, nr34 := 0x00
    nr41 := 0x00, nr42 := 0x00, nr43 := 0x00, nr44 := 0x00
    nr50 := 0x77, nr51 := 0xF3, power := true
    ch1 := { active := true, len := 0 }, ch2 := Channel.off, ch3 := Channel.off, ch4 := Channel.off
    env1 := Envelope.off, env2 := Envelope.off, env4 := Envelope.off, sweep := Sweep.off
    lfsr := 0x7FFF, fsCount := 0, fsStep := 0, sampleCount := 0, samples := [] }

/-- BankState of a 32 KiB cartridge of type 0x00 (20_memory.md R121, R125, R126). -/
def Bank.reset : Bank :=
  { mbc := .none, hasRam := false, hasBattery := false, romBanks := 2, ramSize := 0, ramEn := false
    lo5 := 1, hi2 := 0, mode1 := false, rom4 := 1, rom7 := 1, ramSel := 0, rom9 := 1, ram4 := 0 }

/-- Nothing is listed: every byte reads 0x00 (notes/assumptions/3.md). -/
def Memory.reset : Memory :=
  { rom := [], vram := [], eram := [], ram2 := [], wram := [], oam := [], hram := [], wave := [] }

/-- The machine right after reset: the post-boot mode of 70_reset_and_hazards.md R700, launched with a 32 KiB cartridge
of zero bytes, no SAVE and no BOOT_ROM. A zero image is its own header: type 0x00, ROM size code 0, no RAM (20_memory.md
R120, R125, R126). HALT_BUG is false and SAMPLE_PERIOD is 32 here (notes/assumptions/5.md). `State.launch` of
Machine/Launch.lean gives the reset state for every other choice of the launch parameters. -/
def State.reset : State :=
  { regs := Regs.reset, ctl := Control.reset, cycles := 0, irq := Interrupts.reset, timer := Timer.reset
    joy := Joypad.reset, ser := Serial.reset, pic := Picture.reset, snd := Sound.reset, bank := Bank.reset
    mem := Memory.reset, bootRom := none, bootOff := true, mapperUnsupported := false
    haltBug := false, samplePeriod := 32 }

end Sys2Proof.Machine
end

