-- ==== Sys2Proof/Machine/Store.lean ====
section
/-! DEFINITION. The operations on one backing memory (20_memory.md R80): read and write of one byte, and the canonical
form that every operation keeps. -/

namespace Sys2Proof.Machine

/-- The byte at an offset; 0x00 where nothing is listed. -/
def Store.read : Store → Nat → Byte
  | [], _ => 0
  | (k, v) :: rest, a => if k = a then v else Store.read rest a

/-- Write one byte. Offsets stay rising, and a byte that becomes 0x00 is no longer listed. -/
def Store.write : Store → Nat → Byte → Store
  | [], a, v => if v = 0 then [] else [(a, v)]
  | (k, w) :: rest, a, v =>
    if a < k then (if v = 0 then (k, w) :: rest else (a, v) :: (k, w) :: rest)
    else if a = k then (if v = 0 then rest else (a, v) :: rest)
    else (k, w) :: Store.write rest a v

/-- Canonical from offset `lo` up to `size`: offsets rise, lie in `lo .. size - 1`, and no listed byte is 0x00. -/
def Store.wfFrom (lo size : Nat) : Store → Bool
  | [] => true
  | (k, v) :: rest => decide (lo ≤ k) && decide (k < size) && decide (v ≠ 0) && Store.wfFrom (k + 1) size rest

/-- The canonical form of a memory of `size` bytes. -/
def Store.wf (size : Nat) (m : Store) : Bool := Store.wfFrom 0 size m

/-- The canonical form of the byte string `l` placed at offsets `k`, `k + 1`, ... -/
def Store.ofBytesAt : Nat → List Byte → Store
  | _, [] => []
  | k, v :: rest => if v = 0 then Store.ofBytesAt (k + 1) rest else (k, v) :: Store.ofBytesAt (k + 1) rest

/-- A byte string as a memory that starts at offset 0. -/
def Store.ofBytes (l : List Byte) : Store := Store.ofBytesAt 0 l

/-- The `n` bytes from offset `k` on. -/
def Store.slice (m : Store) (k n : Nat) : List Byte := (List.range n).map (fun i => Store.read m (k + i))

end Sys2Proof.Machine
end

