-- ==== Sys2Proof/Machine/Mapper.lean ====
section
/-! DEFINITION. The cartridge mapper, the bank-switch decoder of 20_memory.md R120-R135: bank selection, mapper writes,
and reads and writes of the ROM image and the external RAM. -/

namespace Sys2Proof.Machine

/-- `ram_banks = max(1, ram_size / 8192)` (R121). -/
def Bank.ramBanks (b : Bank) : Nat := max 1 (b.ramSize / 8192)

/-- The bank of the 0x0000-0x3FFF window before masking (R127-R133). -/
def Bank.bank0 (b : Bank) : Nat :=
  match b.mbc with
  | .mbc1 => if b.mode1 then b.hi2.toNat * 32 else 0
  | .none | .mbc2 | .mbc3 | .mbc5 | .fallback => 0

/-- The bank of the 0x4000-0x7FFF window before masking (R127-R133). -/
def Bank.bankN (b : Bank) : Nat :=
  match b.mbc with
  | .mbc1 => b.hi2.toNat * 32 + b.lo5.toNat
  | .mbc2 => b.rom4.toNat
  | .mbc3 => b.rom7.toNat
  | .mbc5 => b.rom9.toNat
  | .none | .fallback => 1

/-- `ramBank` (R127, R130, R132, R133); MBC2 and the fallback have no banked RAM. -/
def Bank.ramBank (b : Bank) : Nat :=
  match b.mbc with
  | .mbc1 => if b.mode1 then b.hi2.toNat % b.ramBanks else 0
  | .mbc3 => b.ramSel.toNat % b.ramBanks
  | .mbc5 => b.ram4.toNat % b.ramBanks
  | .none | .mbc2 | .fallback => 0

/-- The RAM-enable rule of every mapper that has one: the low nibble is 0xA (R127, R129, R130, R132). -/
def ramEnableValue (v : Byte) : Bool := v.extractLsb' 0 4 == 0xA

/-- A field that cannot hold 0: a write of 0 stores 1 (R127, R129, R130). -/
def zeroAlias {w : Nat} (v : BitVec w) : BitVec w := if v = 0 then 1 else v

/-- MBC1 registers by address (R127). -/
def mbc1Write (b : Bank) (a : Word) (v : Byte) : Bank :=
  if a.toNat < 0x2000 then { b with ramEn := ramEnableValue v }
  else if a.toNat < 0x4000 then { b with lo5 := zeroAlias (v.extractLsb' 0 5) }
  else if a.toNat < 0x6000 then { b with hi2 := v.extractLsb' 0 2 }
  else { b with mode1 := v.getLsbD 0 }

/-- MBC2 registers by address bit 8 (R129). -/
def mbc2Write (b : Bank) (a : Word) (v : Byte) : Bank :=
  if a.toNat < 0x4000 then
    if a.getLsbD 8 then { b with rom4 := zeroAlias (v.extractLsb' 0 4) } else { b with ramEn := ramEnableValue v }
  else b

/-- MBC3 registers by address; the clock latch is ignored (R130). -/
def mbc3Write (b : Bank) (a : Word) (v : Byte) : Bank :=
  if a.toNat < 0x2000 then { b with ramEn := ramEnableValue v }
  else if a.toNat < 0x4000 then { b with rom7 := zeroAlias (v.extractLsb' 0 7) }
  else if a.toNat < 0x6000 then { b with ramSel := v.extractLsb' 0 4 }
  else b

/-- MBC5 registers by address (R132). -/
def mbc5Write (b : Bank) (a : Word) (v : Byte) : Bank :=
  if a.toNat < 0x2000 then { b with ramEn := ramEnableValue v }
  else if a.toNat < 0x3000 then { b with rom9 := b.rom9.extractLsb' 8 1 ++ v }
  else if a.toNat < 0x4000 then { b with rom9 := v.extractLsb' 0 1 ++ b.rom9.extractLsb' 0 8 }
  else if a.toNat < 0x6000 then { b with ram4 := v.extractLsb' 0 4 }
  else b

/-- `MapperWrite(a, v)` for a <= 0x7FFF (R124): no mapper and the fallback ignore it (R131, R133). -/
def Bank.write (b : Bank) (a : Word) (v : Byte) : Bank :=
  match b.mbc with
  | .none | .fallback => b
  | .mbc1 => mbc1Write b a v
  | .mbc2 => mbc2Write b a v
  | .mbc3 => mbc3Write b a v
  | .mbc5 => mbc5Write b a v

/-- Where `RomRead(b, off)` reads the image: the bank is taken modulo the bank count (R122). -/
def Bank.romIndex (b : Bank) (bank off : Nat) : Nat := (bank % b.romBanks) * 0x4000 + off

/-- `RomRead(b, off)` (R122). -/
def State.romRead (s : State) (bank off : Nat) : Byte := s.mem.rom.read (s.bank.romIndex bank off)

/-- Whether MBC3 has one of its clock registers or an unused value selected (R123, R130). -/
def Bank.clockSelected (b : Bank) : Bool := b.mbc == .mbc3 && decide (b.ramSel.toNat > 3)

/-- Whether the banked external RAM is there and enabled (R123). -/
def Bank.ramReachable (b : Bank) : Bool := b.hasRam && b.ramSize != 0 && b.ramEn

/-- The byte index into the banked external RAM for a window offset (R123). -/
def Bank.ramIndex (b : Bank) (off : Nat) : Nat := (b.ramBank * 0x2000 + off) % b.ramSize

/-- `ExtRamRead(a)` for 0xA000 <= a <= 0xBFFF (R123). An enabled read with an MBC3 clock register selected is a free
value (notes/assumptions/1.md). -/
def State.extRamRead (s : State) (a : Word) : Byte :=
  let off := a.toNat - 0xA000
  if s.bank.mbc = .mbc2 then (if s.bank.ramEn then 0xF0 ||| s.mem.ram2.read (off % 512) else 0xFF)
  else if s.bank.clockSelected then
    (if s.bank.ramEn then Config.mbc3ClockRead s.cycles s.bank.ramSel a else 0xFF)
  else if s.bank.ramReachable then s.mem.eram.read (s.bank.ramIndex off)
  else 0xFF

/-- `ExtRamWrite(a, v)` (R123). MBC2 keeps the low nibble. -/
def State.extRamWrite (s : State) (a : Word) (v : Byte) : State :=
  let off := a.toNat - 0xA000
  if s.bank.mbc = .mbc2 then
    (if s.bank.ramEn then { s with mem := { s.mem with ram2 := s.mem.ram2.write (off % 512) (v &&& 0x0F) } } else s)
  else if s.bank.clockSelected then s
  else if s.bank.ramReachable then
    { s with mem := { s.mem with eram := s.mem.eram.write (s.bank.ramIndex off) v } }
  else s

end Sys2Proof.Machine
end

