-- ==== Sys2Proof/Syntax.lean ====
section
/-! DEFINITION. The instructions: `Instr` has one constructor for each row of spec/opcode_table.json (the rows
with an operand first, each group in the table's order),
with the operand types of 30_encoding.md R162 and R164, and the views that name a whole field of the opcode map. -/

namespace Sys2Proof

/-- `r[.]` of R162 without value 6, which is the memory byte at HL and no register. -/
inductive Reg8 where
  | b | c | d | e | h | l | a
  deriving DecidableEq, Repr

/-- `rp[.]` of R162. -/
inductive Reg16 where
  | bc | de | hl | sp
  deriving DecidableEq, Repr

/-- `rp2[.]` of R162. -/
inductive StackReg where
  | bc | de | hl | af
  deriving DecidableEq, Repr

/-- `cc[.]` of R162. -/
inductive Cond where
  | nz | z | nc | c
  deriving DecidableEq, Repr

/-- `alu[.]` of R162. -/
inductive AluOp where
  | add | adc | sub | sbc | and | xor | or | cp
  deriving DecidableEq, Repr

/-- `rot[.]` of R162. -/
inductive RotOp where
  | rlc | rrc | rl | rr | sla | sra | swap | srl
  deriving DecidableEq, Repr

/-- The three CB groups that name a bit (R163, x = 1, 2, 3). -/
inductive BitOp where
  | bit | res | set
  deriving DecidableEq, Repr

/-- One constructor per row of spec/opcode_table.json. `n` is an unsigned byte, `e` a byte read as two's complement, `nn` a
16-bit immediate (low byte first in memory), `z` STOP's ignored byte, `bit` a bit number, `r` a register (R164). -/
inductive Instr where
  /-- `LD BC,nn`, R250. -/
  | ld_bc_nn (nn : Word)
  /-- `LD B,n`, R201. -/
  | ld_b_n (n : Byte)
  /-- `LD (nn),SP`, R251. -/
  | ld_atNN_sp (nn : Word)
  /-- `LD C,n`, R201. -/
  | ld_c_n (n : Byte)
  /-- `STOP`, R442. -/
  | stop (z : Byte)
  /-- `LD DE,nn`, R250. -/
  | ld_de_nn (nn : Word)
  /-- `LD D,n`, R201. -/
  | ld_d_n (n : Byte)
  /-- `JR e`, R404. -/
  | jr_e (e : Byte)
  /-- `LD E,n`, R201. -/
  | ld_e_n (n : Byte)
  /-- `JR NZ,e`, R405. -/
  | jr_nz_e (e : Byte)
  /-- `LD HL,nn`, R250. -/
  | ld_hl_nn (nn : Word)
  /-- `LD H,n`, R201. -/
  | ld_h_n (n : Byte)
  /-- `JR Z,e`, R405. -/
  | jr_z_e (e : Byte)
  /-- `LD L,n`, R201. -/
  | ld_l_n (n : Byte)
  /-- `JR NC,e`, R405. -/
  | jr_nc_e (e : Byte)
  /-- `LD SP,nn`, R250. -/
  | ld_sp_nn (nn : Word)
  /-- `LD (HL),n`, R204. -/
  | ld_atHL_n (n : Byte)
  /-- `JR C,e`, R405. -/
  | jr_c_e (e : Byte)
  /-- `LD A,n`, R201. -/
  | ld_a_n (n : Byte)
  /-- `JP NZ,nn`, R402. -/
  | jp_nz_nn (nn : Word)
  /-- `JP nn`, R401. -/
  | jp_nn (nn : Word)
  /-- `CALL NZ,nn`, R407. -/
  | call_nz_nn (nn : Word)
  /-- `ADD A,n`, R283. -/
  | add_a_n (n : Byte)
  /-- `JP Z,nn`, R402. -/
  | jp_z_nn (nn : Word)
  /-- `PREFIX CB`, R445. -/
  | prefix_cb (op2 : Byte)
  /-- `CALL Z,nn`, R407. -/
  | call_z_nn (nn : Word)
  /-- `CALL nn`, R406. -/
  | call_nn (nn : Word)
  /-- `ADC A,n`, R286. -/
  | adc_a_n (n : Byte)
  /-- `JP NC,nn`, R402. -/
  | jp_nc_nn (nn : Word)
  /-- `CALL NC,nn`, R407. -/
  | call_nc_nn (nn : Word)
  /-- `SUB n`, R289. -/
  | sub_n (n : Byte)
  /-- `JP C,nn`, R402. -/
  | jp_c_nn (nn : Word)
  /-- `CALL C,nn`, R407. -/
  | call_c_nn (nn : Word)
  /-- `SBC A,n`, R292. -/
  | sbc_a_n (n : Byte)
  /-- `LDH (n),A`, R219. -/
  | ldh_atN_a (n : Byte)
  /-- `AND n`, R295. -/
  | and_n (n : Byte)
  /-- `ADD SP,e`, R333. -/
  | add_sp_e (e : Byte)
  /-- `LD (nn),A`, R210. -/
  | ld_atNN_a (nn : Word)
  /-- `XOR n`, R298. -/
  | xor_n (n : Byte)
  /-- `LDH A,(n)`, R218. -/
  | ldh_a_atN (n : Byte)
  /-- `OR n`, R301. -/
  | or_n (n : Byte)
  /-- `LD HL,SP+e`, R253. -/
  | ld_hl_spe (e : Byte)
  /-- `LD A,(nn)`, R209. -/
  | ld_a_atNN (nn : Word)
  /-- `CP n`, R304. -/
  | cp_n (n : Byte)
  /-- `RLC r`, R355. -/
  | rlc_r (r : Reg8)
  /-- `RRC r`, R357. -/
  | rrc_r (r : Reg8)
  /-- `RL r`, R359. -/
  | rl_r (r : Reg8)
  /-- `RR r`, R361. -/
  | rr_r (r : Reg8)
  /-- `SLA r`, R363. -/
  | sla_r (r : Reg8)
  /-- `SRA r`, R365. -/
  | sra_r (r : Reg8)
  /-- `SWAP r`, R367. -/
  | swap_r (r : Reg8)
  /-- `SRL r`, R369. -/
  | srl_r (r : Reg8)
  /-- `BIT b,r`, R371. -/
  | bit_r (bit : Fin 8) (r : Reg8)
  /-- `BIT b,(HL)`, R372. -/
  | bit_atHL (bit : Fin 8)
  /-- `RES b,r`, R373. -/
  | res_r (bit : Fin 8) (r : Reg8)
  /-- `RES b,(HL)`, R374. -/
  | res_atHL (bit : Fin 8)
  /-- `SET b,r`, R375. -/
  | set_r (bit : Fin 8) (r : Reg8)
  /-- `SET b,(HL)`, R376. -/
  | set_atHL (bit : Fin 8)
  /-- `NOP`, R440. -/
  | nop
  /-- `LD (BC),A`, R207. -/
  | ld_atBC_a
  /-- `INC BC`, R331. -/
  | inc_bc
  /-- `INC B`, R305. -/
  | inc_b
  /-- `DEC B`, R307. -/
  | dec_b
  /-- `RLCA`, R351. -/
  | rlca
  /-- `ADD HL,BC`, R330. -/
  | add_hl_bc
  /-- `LD A,(BC)`, R205. -/
  | ld_a_atBC
  /-- `DEC BC`, R332. -/
  | dec_bc
  /-- `INC C`, R305. -/
  | inc_c
  /-- `DEC C`, R307. -/
  | dec_c
  /-- `RRCA`, R352. -/
  | rrca
  /-- `LD (DE),A`, R208. -/
  | ld_atDE_a
  /-- `INC DE`, R331. -/
  | inc_de
  /-- `INC D`, R305. -/
  | inc_d
  /-- `DEC D`, R307. -/
  | dec_d
  /-- `RLA`, R353. -/
  | rla
  /-- `ADD HL,DE`, R330. -/
  | add_hl_de
  /-- `LD A,(DE)`, R206. -/
  | ld_a_atDE
  /-- `DEC DE`, R332. -/
  | dec_de
  /-- `INC E`, R305. -/
  | inc_e
  /-- `DEC E`, R307. -/
  | dec_e
  /-- `RRA`, R354. -/
  | rra
  /-- `LD (HL+),A`, R213. -/
  | ld_atHLinc_a
  /-- `INC HL`, R331. -/
  | inc_hl
  /-- `INC H`, R305. -/
  | inc_h
  /-- `DEC H`, R307. -/
  | dec_h
  /-- `DAA`, R309. -/
  | daa
  /-- `ADD HL,HL`, R330. -/
  | add_hl_hl
  /-- `LD A,(HL+)`, R211. -/
  | ld_a_atHLinc
  /-- `DEC HL`, R332. -/
  | dec_hl
  /-- `INC L`, R305. -/
  | inc_l
  /-- `DEC L`, R307. -/
  | dec_l
  /-- `CPL`, R310. -/
  | cpl
  /-- `LD (HL-),A`, R214. -/
  | ld_atHLdec_a
  /-- `INC SP`, R331. -/
  | inc_sp
  /-- `INC (HL)`, R306. -/
  | inc_atHL
  /-- `DEC (HL)`, R308. -/
  | dec_atHL
  /-- `SCF`, R311. -/
  | scf
  /-- `ADD HL,SP`, R330. -/
  | add_hl_sp
  /-- `LD A,(HL-)`, R212. -/
  | ld_a_atHLdec
  /-- `DEC SP`, R332. -/
  | dec_sp
  /-- `INC A`, R305. -/
  | inc_a
  /-- `DEC A`, R307. -/
  | dec_a
  /-- `CCF`, R312. -/
  | ccf
  /-- `LD B,B`, R200. -/
  | ld_b_b
  /-- `LD B,C`, R200. -/
  | ld_b_c
  /-- `LD B,D`, R200. -/
  | ld_b_d
  /-- `LD B,E`, R200. -/
  | ld_b_e
  /-- `LD B,H`, R200. -/
  | ld_b_h
  /-- `LD B,L`, R200. -/
  | ld_b_l
  /-- `LD B,(HL)`, R202. -/
  | ld_b_atHL
  /-- `LD B,A`, R200. -/
  | ld_b_a
  /-- `LD C,B`, R200. -/
  | ld_c_b
  /-- `LD C,C`, R200. -/
  | ld_c_c
  /-- `LD C,D`, R200. -/
  | ld_c_d
  /-- `LD C,E`, R200. -/
  | ld_c_e
  /-- `LD C,H`, R200. -/
  | ld_c_h
  /-- `LD C,L`, R200. -/
  | ld_c_l
  /-- `LD C,(HL)`, R202. -/
  | ld_c_atHL
  /-- `LD C,A`, R200. -/
  | ld_c_a
  /-- `LD D,B`, R200. -/
  | ld_d_b
  /-- `LD D,C`, R200. -/
  | ld_d_c
  /-- `LD D,D`, R200. -/
  | ld_d_d
  /-- `LD D,E`, R200. -/
  | ld_d_e
  /-- `LD D,H`, R200. -/
  | ld_d_h
  /-- `LD D,L`, R200. -/
  | ld_d_l
  /-- `LD D,(HL)`, R202. -/
  | ld_d_atHL
  /-- `LD D,A`, R200. -/
  | ld_d_a
  /-- `LD E,B`, R200. -/
  | ld_e_b
  /-- `LD E,C`, R200. -/
  | ld_e_c
  /-- `LD E,D`, R200. -/
  | ld_e_d
  /-- `LD E,E`, R200. -/
  | ld_e_e
  /-- `LD E,H`, R200. -/
  | ld_e_h
  /-- `LD E,L`, R200. -/
  | ld_e_l
  /-- `LD E,(HL)`, R202. -/
  | ld_e_atHL
  /-- `LD E,A`, R200. -/
  | ld_e_a
  /-- `LD H,B`, R200. -/
  | ld_h_b
  /-- `LD H,C`, R200. -/
  | ld_h_c
  /-- `LD H,D`, R200. -/
  | ld_h_d
  /-- `LD H,E`, R200. -/
  | ld_h_e
  /-- `LD H,H`, R200. -/
  | ld_h_h
  /-- `LD H,L`, R200. -/
  | ld_h_l
  /-- `LD H,(HL)`, R202. -/
  | ld_h_atHL
  /-- `LD H,A`, R200. -/
  | ld_h_a
  /-- `LD L,B`, R200. -/
  | ld_l_b
  /-- `LD L,C`, R200. -/
  | ld_l_c
  /-- `LD L,D`, R200. -/
  | ld_l_d
  /-- `LD L,E`, R200. -/
  | ld_l_e
  /-- `LD L,H`, R200. -/
  | ld_l_h
  /-- `LD L,L`, R200. -/
  | ld_l_l
  /-- `LD L,(HL)`, R202. -/
  | ld_l_atHL
  /-- `LD L,A`, R200. -/
  | ld_l_a
  /-- `LD (HL),B`, R203. -/
  | ld_atHL_b
  /-- `LD (HL),C`, R203. -/
  | ld_atHL_c
  /-- `LD (HL),D`, R203. -/
  | ld_atHL_d
  /-- `LD (HL),E`, R203. -/
  | ld_atHL_e
  /-- `LD (HL),H`, R203. -/
  | ld_atHL_h
  /-- `LD (HL),L`, R203. -/
  | ld_atHL_l
  /-- `HALT`, R441. -/
  | halt
  /-- `LD (HL),A`, R203. -/
  | ld_atHL_a
  /-- `LD A,B`, R200. -/
  | ld_a_b
  /-- `LD A,C`, R200. -/
  | ld_a_c
  /-- `LD A,D`, R200. -/
  | ld_a_d
  /-- `LD A,E`, R200. -/
  | ld_a_e
  /-- `LD A,H`, R200. -/
  | ld_a_h
  /-- `LD A,L`, R200. -/
  | ld_a_l
  /-- `LD A,(HL)`, R202. -/
  | ld_a_atHL
  /-- `LD A,A`, R200. -/
  | ld_a_a
  /-- `ADD A,B`, R281. -/
  | add_a_b
  /-- `ADD A,C`, R281. -/
  | add_a_c
  /-- `ADD A,D`, R281. -/
  | add_a_d
  /-- `ADD A,E`, R281. -/
  | add_a_e
  /-- `ADD A,H`, R281. -/
  | add_a_h
  /-- `ADD A,L`, R281. -/
  | add_a_l
  /-- `ADD A,(HL)`, R282. -/
  | add_a_atHL
  /-- `ADD A,A`, R281. -/
  | add_a_a
  /-- `ADC A,B`, R284. -/
  | adc_a_b
  /-- `ADC A,C`, R284. -/
  | adc_a_c
  /-- `ADC A,D`, R284. -/
  | adc_a_d
  /-- `ADC A,E`, R284. -/
  | adc_a_e
  /-- `ADC A,H`, R284. -/
  | adc_a_h
  /-- `ADC A,L`, R284. -/
  | adc_a_l
  /-- `ADC A,(HL)`, R285. -/
  | adc_a_atHL
  /-- `ADC A,A`, R284. -/
  | adc_a_a
  /-- `SUB B`, R287. -/
  | sub_b
  /-- `SUB C`, R287. -/
  | sub_c
  /-- `SUB D`, R287. -/
  | sub_d
  /-- `SUB E`, R287. -/
  | sub_e
  /-- `SUB H`, R287. -/
  | sub_h
  /-- `SUB L`, R287. -/
  | sub_l
  /-- `SUB (HL)`, R288. -/
  | sub_atHL
  /-- `SUB A`, R287. -/
  | sub_a
  /-- `SBC A,B`, R290. -/
  | sbc_a_b
  /-- `SBC A,C`, R290. -/
  | sbc_a_c
  /-- `SBC A,D`, R290. -/
  | sbc_a_d
  /-- `SBC A,E`, R290. -/
  | sbc_a_e
  /-- `SBC A,H`, R290. -/
  | sbc_a_h
  /-- `SBC A,L`, R290. -/
  | sbc_a_l
  /-- `SBC A,(HL)`, R291. -/
  | sbc_a_atHL
  /-- `SBC A,A`, R290. -/
  | sbc_a_a
  /-- `AND B`, R293. -/
  | and_b
  /-- `AND C`, R293. -/
  | and_c
  /-- `AND D`, R293. -/
  | and_d
  /-- `AND E`, R293. -/
  | and_e
  /-- `AND H`, R293. -/
  | and_h
  /-- `AND L`, R293. -/
  | and_l
  /-- `AND (HL)`, R294. -/
  | and_atHL
  /-- `AND A`, R293. -/
  | and_a
  /-- `XOR B`, R296. -/
  | xor_b
  /-- `XOR C`, R296. -/
  | xor_c
  /-- `XOR D`, R296. -/
  | xor_d
  /-- `XOR E`, R296. -/
  | xor_e
  /-- `XOR H`, R296. -/
  | xor_h
  /-- `XOR L`, R296. -/
  | xor_l
  /-- `XOR (HL)`, R297. -/
  | xor_atHL
  /-- `XOR A`, R296. -/
  | xor_a
  /-- `OR B`, R299. -/
  | or_b
  /-- `OR C`, R299. -/
  | or_c
  /-- `OR D`, R299. -/
  | or_d
  /-- `OR E`, R299. -/
  | or_e
  /-- `OR H`, R299. -/
  | or_h
  /-- `OR L`, R299. -/
  | or_l
  /-- `OR (HL)`, R300. -/
  | or_atHL
  /-- `OR A`, R299. -/
  | or_a
  /-- `CP B`, R302. -/
  | cp_b
  /-- `CP C`, R302. -/
  | cp_c
  /-- `CP D`, R302. -/
  | cp_d
  /-- `CP E`, R302. -/
  | cp_e
  /-- `CP H`, R302. -/
  | cp_h
  /-- `CP L`, R302. -/
  | cp_l
  /-- `CP (HL)`, R303. -/
  | cp_atHL
  /-- `CP A`, R302. -/
  | cp_a
  /-- `RET NZ`, R409. -/
  | ret_nz
  /-- `POP BC`, R255. -/
  | pop_bc
  /-- `PUSH BC`, R254. -/
  | push_bc
  /-- `RST 00H`, R415. -/
  | rst_00
  /-- `RET Z`, R409. -/
  | ret_z
  /-- `RET`, R408. -/
  | ret
  /-- `RST 08H`, R415. -/
  | rst_08
  /-- `RET NC`, R409. -/
  | ret_nc
  /-- `POP DE`, R255. -/
  | pop_de
  /-- `ILLEGAL_D3`, R446. -/
  | illegal_d3
  /-- `PUSH DE`, R254. -/
  | push_de
  /-- `RST 10H`, R415. -/
  | rst_10
  /-- `RET C`, R409. -/
  | ret_c
  /-- `RETI`, R412. -/
  | reti
  /-- `ILLEGAL_DB`, R446. -/
  | illegal_db
  /-- `ILLEGAL_DD`, R446. -/
  | illegal_dd
  /-- `RST 18H`, R415. -/
  | rst_18
  /-- `POP HL`, R255. -/
  | pop_hl
  /-- `LD (C),A`, R217. -/
  | ld_atC_a
  /-- `ILLEGAL_E3`, R446. -/
  | illegal_e3
  /-- `ILLEGAL_E4`, R446. -/
  | illegal_e4
  /-- `PUSH HL`, R254. -/
  | push_hl
  /-- `RST 20H`, R415. -/
  | rst_20
  /-- `JP HL`, R403. -/
  | jp_hl
  /-- `ILLEGAL_EB`, R446. -/
  | illegal_eb
  /-- `ILLEGAL_EC`, R446. -/
  | illegal_ec
  /-- `ILLEGAL_ED`, R446. -/
  | illegal_ed
  /-- `RST 28H`, R415. -/
  | rst_28
  /-- `POP AF`, R256. -/
  | pop_af
  /-- `LD A,(C)`, R216. -/
  | ld_a_atC
  /-- `DI`, R443. -/
  | di
  /-- `ILLEGAL_F4`, R446. -/
  | illegal_f4
  /-- `PUSH AF`, R254. -/
  | push_af
  /-- `RST 30H`, R415. -/
  | rst_30
  /-- `LD SP,HL`, R252. -/
  | ld_sp_hl
  /-- `EI`, R444. -/
  | ei
  /-- `ILLEGAL_FC`, R446. -/
  | illegal_fc
  /-- `ILLEGAL_FD`, R446. -/
  | illegal_fd
  /-- `RST 38H`, R415. -/
  | rst_38
  /-- `RLC (HL)`, R356. -/
  | rlc_atHL
  /-- `RRC (HL)`, R358. -/
  | rrc_atHL
  /-- `RL (HL)`, R360. -/
  | rl_atHL
  /-- `RR (HL)`, R362. -/
  | rr_atHL
  /-- `SLA (HL)`, R364. -/
  | sla_atHL
  /-- `SRA (HL)`, R366. -/
  | sra_atHL
  /-- `SWAP (HL)`, R368. -/
  | swap_atHL
  /-- `SRL (HL)`, R370. -/
  | srl_atHL
  deriving DecidableEq, Repr

/-- `LD r,r'`, the 49 opcodes of R200, as `r = r[y]` and `r' = r[z]`. -/
def Instr.ldRegReg : Reg8 → Reg8 → Instr
  | .b, .b => .ld_b_b
  | .b, .c => .ld_b_c
  | .b, .d => .ld_b_d
  | .b, .e => .ld_b_e
  | .b, .h => .ld_b_h
  | .b, .l => .ld_b_l
  | .b, .a => .ld_b_a
  | .c, .b => .ld_c_b
  | .c, .c => .ld_c_c
  | .c, .d => .ld_c_d
  | .c, .e => .ld_c_e
  | .c, .h => .ld_c_h
  | .c, .l => .ld_c_l
  | .c, .a => .ld_c_a
  | .d, .b => .ld_d_b
  | .d, .c => .ld_d_c
  | .d, .d => .ld_d_d
  | .d, .e => .ld_d_e
  | .d, .h => .ld_d_h
  | .d, .l => .ld_d_l
  | .d, .a => .ld_d_a
  | .e, .b => .ld_e_b
  | .e, .c => .ld_e_c
  | .e, .d => .ld_e_d
  | .e, .e => .ld_e_e
  | .e, .h => .ld_e_h
  | .e, .l => .ld_e_l
  | .e, .a => .ld_e_a
  | .h, .b => .ld_h_b
  | .h, .c => .ld_h_c
  | .h, .d => .ld_h_d
  | .h, .e => .ld_h_e
  | .h, .h => .ld_h_h
  | .h, .l => .ld_h_l
  | .h, .a => .ld_h_a
  | .l, .b => .ld_l_b
  | .l, .c => .ld_l_c
  | .l, .d => .ld_l_d
  | .l, .e => .ld_l_e
  | .l, .h => .ld_l_h
  | .l, .l => .ld_l_l
  | .l, .a => .ld_l_a
  | .a, .b => .ld_a_b
  | .a, .c => .ld_a_c
  | .a, .d => .ld_a_d
  | .a, .e => .ld_a_e
  | .a, .h => .ld_a_h
  | .a, .l => .ld_a_l
  | .a, .a => .ld_a_a

/-- `LD r,n` (R201). -/
def Instr.ldRegN : Reg8 → Byte → Instr
  | .b, n => .ld_b_n n
  | .c, n => .ld_c_n n
  | .d, n => .ld_d_n n
  | .e, n => .ld_e_n n
  | .h, n => .ld_h_n n
  | .l, n => .ld_l_n n
  | .a, n => .ld_a_n n

/-- `LD r,(HL)` (R202). -/
def Instr.ldRegAtHL : Reg8 → Instr
  | .b => .ld_b_atHL
  | .c => .ld_c_atHL
  | .d => .ld_d_atHL
  | .e => .ld_e_atHL
  | .h => .ld_h_atHL
  | .l => .ld_l_atHL
  | .a => .ld_a_atHL

/-- `LD (HL),r` (R203). -/
def Instr.ldAtHLReg : Reg8 → Instr
  | .b => .ld_atHL_b
  | .c => .ld_atHL_c
  | .d => .ld_atHL_d
  | .e => .ld_atHL_e
  | .h => .ld_atHL_h
  | .l => .ld_atHL_l
  | .a => .ld_atHL_a

/-- `alu[y] A,r[z]` with a register (R168, R281-R302). -/
def Instr.aluReg : AluOp → Reg8 → Instr
  | .add, .b => .add_a_b
  | .add, .c => .add_a_c
  | .add, .d => .add_a_d
  | .add, .e => .add_a_e
  | .add, .h => .add_a_h
  | .add, .l => .add_a_l
  | .add, .a => .add_a_a
  | .adc, .b => .adc_a_b
  | .adc, .c => .adc_a_c
  | .adc, .d => .adc_a_d
  | .adc, .e => .adc_a_e
  | .adc, .h => .adc_a_h
  | .adc, .l => .adc_a_l
  | .adc, .a => .adc_a_a
  | .sub, .b => .sub_b
  | .sub, .c => .sub_c
  | .sub, .d => .sub_d
  | .sub, .e => .sub_e
  | .sub, .h => .sub_h
  | .sub, .l => .sub_l
  | .sub, .a => .sub_a
  | .sbc, .b => .sbc_a_b
  | .sbc, .c => .sbc_a_c
  | .sbc, .d => .sbc_a_d
  | .sbc, .e => .sbc_a_e
  | .sbc, .h => .sbc_a_h
  | .sbc, .l => .sbc_a_l
  | .sbc, .a => .sbc_a_a
  | .and, .b => .and_b
  | .and, .c => .and_c
  | .and, .d => .and_d
  | .and, .e => .and_e
  | .and, .h => .and_h
  | .and, .l => .and_l
  | .and, .a => .and_a
  | .xor, .b => .xor_b
  | .xor, .c => .xor_c
  | .xor, .d => .xor_d
  | .xor, .e => .xor_e
  | .xor, .h => .xor_h
  | .xor, .l => .xor_l
  | .xor, .a => .xor_a
  | .or, .b => .or_b
  | .or, .c => .or_c
  | .or, .d => .or_d
  | .or, .e => .or_e
  | .or, .h => .or_h
  | .or, .l => .or_l
  | .or, .a => .or_a
  | .cp, .b => .cp_b
  | .cp, .c => .cp_c
  | .cp, .d => .cp_d
  | .cp, .e => .cp_e
  | .cp, .h => .cp_h
  | .cp, .l => .cp_l
  | .cp, .a => .cp_a

/-- `alu[y] A,(HL)` (R168). -/
def Instr.aluAtHL : AluOp → Instr
  | .add => .add_a_atHL
  | .adc => .adc_a_atHL
  | .sub => .sub_atHL
  | .sbc => .sbc_a_atHL
  | .and => .and_atHL
  | .xor => .xor_atHL
  | .or => .or_atHL
  | .cp => .cp_atHL

/-- `alu[y] A,n` (R169). -/
def Instr.aluN : AluOp → Byte → Instr
  | .add, n => .add_a_n n
  | .adc, n => .adc_a_n n
  | .sub, n => .sub_n n
  | .sbc, n => .sbc_a_n n
  | .and, n => .and_n n
  | .xor, n => .xor_n n
  | .or, n => .or_n n
  | .cp, n => .cp_n n

/-- `INC r` (R305). -/
def Instr.incReg : Reg8 → Instr
  | .b => .inc_b
  | .c => .inc_c
  | .d => .inc_d
  | .e => .inc_e
  | .h => .inc_h
  | .l => .inc_l
  | .a => .inc_a

/-- `DEC r` (R307). -/
def Instr.decReg : Reg8 → Instr
  | .b => .dec_b
  | .c => .dec_c
  | .d => .dec_d
  | .e => .dec_e
  | .h => .dec_h
  | .l => .dec_l
  | .a => .dec_a

/-- `LD rr,nn` (R250). -/
def Instr.ldPairNN : Reg16 → Word → Instr
  | .bc, nn => .ld_bc_nn nn
  | .de, nn => .ld_de_nn nn
  | .hl, nn => .ld_hl_nn nn
  | .sp, nn => .ld_sp_nn nn

/-- `ADD HL,rr` (R330). -/
def Instr.addHLPair : Reg16 → Instr
  | .bc => .add_hl_bc
  | .de => .add_hl_de
  | .hl => .add_hl_hl
  | .sp => .add_hl_sp

/-- `INC rr` (R331). -/
def Instr.incPair : Reg16 → Instr
  | .bc => .inc_bc
  | .de => .inc_de
  | .hl => .inc_hl
  | .sp => .inc_sp

/-- `DEC rr` (R332). -/
def Instr.decPair : Reg16 → Instr
  | .bc => .dec_bc
  | .de => .dec_de
  | .hl => .dec_hl
  | .sp => .dec_sp

/-- `PUSH qq` (R254). -/
def Instr.push : StackReg → Instr
  | .bc => .push_bc
  | .de => .push_de
  | .hl => .push_hl
  | .af => .push_af

/-- `POP rr` and `POP AF` (R255, R256). -/
def Instr.pop : StackReg → Instr
  | .bc => .pop_bc
  | .de => .pop_de
  | .hl => .pop_hl
  | .af => .pop_af

/-- `JP cc,nn` (R402). -/
def Instr.jpCond : Cond → Word → Instr
  | .nz, nn => .jp_nz_nn nn
  | .z, nn => .jp_z_nn nn
  | .nc, nn => .jp_nc_nn nn
  | .c, nn => .jp_c_nn nn

/-- `JR cc,e` (R405). -/
def Instr.jrCond : Cond → Byte → Instr
  | .nz, e => .jr_nz_e e
  | .z, e => .jr_z_e e
  | .nc, e => .jr_nc_e e
  | .c, e => .jr_c_e e

/-- `CALL cc,nn` (R407). -/
def Instr.callCond : Cond → Word → Instr
  | .nz, nn => .call_nz_nn nn
  | .z, nn => .call_z_nn nn
  | .nc, nn => .call_nc_nn nn
  | .c, nn => .call_c_nn nn

/-- `RET cc` (R409). -/
def Instr.retCond : Cond → Instr
  | .nz => .ret_nz
  | .z => .ret_z
  | .nc => .ret_nc
  | .c => .ret_c

/-- `RST 8y` (R415). -/
def Instr.rst : Fin 8 → Instr
  | 0 => .rst_00
  | 1 => .rst_08
  | 2 => .rst_10
  | 3 => .rst_18
  | 4 => .rst_20
  | 5 => .rst_28
  | 6 => .rst_30
  | 7 => .rst_38

/-- `rot[y] r[z]` with a register (R163, R355-R370). -/
def Instr.rotReg : RotOp → Reg8 → Instr
  | .rlc, r => .rlc_r r
  | .rrc, r => .rrc_r r
  | .rl, r => .rl_r r
  | .rr, r => .rr_r r
  | .sla, r => .sla_r r
  | .sra, r => .sra_r r
  | .swap, r => .swap_r r
  | .srl, r => .srl_r r

/-- `rot[y] (HL)` (R163). -/
def Instr.rotAtHL : RotOp → Instr
  | .rlc => .rlc_atHL
  | .rrc => .rrc_atHL
  | .rl => .rl_atHL
  | .rr => .rr_atHL
  | .sla => .sla_atHL
  | .sra => .sra_atHL
  | .swap => .swap_atHL
  | .srl => .srl_atHL

/-- `BIT b,r`, `RES b,r` and `SET b,r` (R371, R373, R375). -/
def Instr.bitReg : BitOp → Fin 8 → Reg8 → Instr
  | .bit, n, r => .bit_r n r
  | .res, n, r => .res_r n r
  | .set, n, r => .set_r n r

/-- `BIT b,(HL)`, `RES b,(HL)` and `SET b,(HL)` (R372, R374, R376). -/
def Instr.bitAtHL : BitOp → Fin 8 → Instr
  | .bit, n => .bit_atHL n
  | .res, n => .res_atHL n
  | .set, n => .set_atHL n

/-- The eleven illegal opcodes (R171). -/
def Instr.illegals : List Instr :=
  [.illegal_d3, .illegal_db, .illegal_dd, .illegal_e3, .illegal_e4, .illegal_eb,
   .illegal_ec, .illegal_ed, .illegal_f4, .illegal_fc, .illegal_fd]

end Sys2Proof
end

