-- ==== Sys2Proof/Machine/Operands.lean ====
section
/-! DEFINITION. The operand forms of 30_encoding.md R162 and R164: registers, register pairs, flags, conditions and the
widening of a byte operand. -/

namespace Sys2Proof.Machine

/-- `x[r]` for an 8-bit register (00_scope.md R13). -/
def State.reg (s : State) : Reg8 → Byte
  | .b => s.regs.b
  | .c => s.regs.c
  | .d => s.regs.d
  | .e => s.regs.e
  | .h => s.regs.h
  | .l => s.regs.l
  | .a => s.regs.a

/-- `x[r] <- v` for an 8-bit register (R13). -/
def State.setReg (s : State) (r : Reg8) (v : Byte) : State :=
  match r with
  | .b => { s with regs := { s.regs with b := v } }
  | .c => { s with regs := { s.regs with c := v } }
  | .d => { s with regs := { s.regs with d := v } }
  | .e => { s with regs := { s.regs with e := v } }
  | .h => { s with regs := { s.regs with h := v } }
  | .l => { s with regs := { s.regs with l := v } }
  | .a => { s with regs := { s.regs with a := v } }

/-- The pair BC, `B : C` (10_state.md R30, R31). -/
def State.bc (s : State) : Word := Word.ofBytes s.regs.b s.regs.c

/-- The pair DE, `D : E`. -/
def State.de (s : State) : Word := Word.ofBytes s.regs.d s.regs.e

/-- The pair HL, `H : L`. -/
def State.hl (s : State) : Word := Word.ofBytes s.regs.h s.regs.l

/-- F as a byte: Z, N, H, C in bits 7-4, and bits 3-0 read 0 (10_state.md R32). -/
def State.f (s : State) : Byte :=
  BitVec.ofBool s.regs.fz ++ BitVec.ofBool s.regs.fn ++ BitVec.ofBool s.regs.fh ++ BitVec.ofBool s.regs.fc ++ (0 : BitVec 4)

/-- Writing a pair writes both halves (R31). -/
def State.setBc (s : State) (v : Word) : State := { s with regs := { s.regs with b := v.hi, c := v.lo } }

/-- Write DE (R31). -/
def State.setDe (s : State) (v : Word) : State := { s with regs := { s.regs with d := v.hi, e := v.lo } }

/-- Write HL (R31). -/
def State.setHl (s : State) (v : Word) : State := { s with regs := { s.regs with h := v.hi, l := v.lo } }

/-- Write SP. -/
def State.setSp (s : State) (v : Word) : State := { s with regs := { s.regs with sp := v } }

/-- `pc <- target` (R13). -/
def State.setPc (s : State) (v : Word) : State := { s with regs := { s.regs with pc := v } }

/-- Write the four flags. -/
def State.setFlags (s : State) (z n h c : Bool) : State :=
  { s with regs := { s.regs with fz := z, fn := n, fh := h, fc := c } }

/-- Write AF as POP AF does: bits 3-0 of the low byte are discarded (R32, 41_loads_16bit.md R256). -/
def State.setAf (s : State) (v : Word) : State :=
  { s with regs := { s.regs with
      a := v.hi, fz := v.getLsbD 7, fn := v.getLsbD 6, fh := v.getLsbD 5, fc := v.getLsbD 4 } }

/-- `x[rp[p]]` (R162). -/
def State.pair (s : State) : Reg16 → Word
  | .bc => s.bc
  | .de => s.de
  | .hl => s.hl
  | .sp => s.regs.sp

/-- `x[rp[p]] <- v` (R162). -/
def State.setPair (s : State) (r : Reg16) (v : Word) : State :=
  match r with
  | .bc => s.setBc v
  | .de => s.setDe v
  | .hl => s.setHl v
  | .sp => s.setSp v

/-- `x[rp2[p]]` (R162). -/
def State.stackReg (s : State) : StackReg → Word
  | .bc => s.bc
  | .de => s.de
  | .hl => s.hl
  | .af => Word.ofBytes s.regs.a s.f

/-- `x[rp2[p]] <- v` (R162). -/
def State.setStackReg (s : State) (r : StackReg) (v : Word) : State :=
  match r with
  | .bc => s.setBc v
  | .de => s.setDe v
  | .hl => s.setHl v
  | .af => s.setAf v

/-- `Cond(cc)` (45_control_flow.md R400). -/
def State.cond (s : State) : Cond → Bool
  | .nz => !s.regs.fz
  | .z => s.regs.fz
  | .nc => !s.regs.fc
  | .c => s.regs.fc

/-- `sext_16(e)` (R12, R164). -/
def sext16 (e : Byte) : Word := e.signExtend 16

/-- `zext_16(n)` (R12, R164). -/
def zext16 (n : Byte) : Word := n.setWidth 16

/-- `0xFF00 + zext_16(n)`, the high-page address of LDH and `(C)` (R164). -/
def highPage (n : Byte) : Word := 0xFF00 + zext16 n

end Sys2Proof.Machine
end

