-- ==== Sys2Proof/Machine/Devices.lean ====
section
/-! DEFINITION. `Request(k)` (00_scope.md R16) and the small devices: the timer unit, the joypad and the serial unit
(60_exceptions.md R540-R575). -/

namespace Sys2Proof.Machine

/-- `Request(k)`: set bit k of IF (00_scope.md R16, 60_exceptions.md R513). -/
def State.request (s : State) (k : Nat) : State :=
  { s with irq := { s.irq with iflag := s.irq.iflag ||| ((1 : BitVec 5) <<< k) } }

/-- `IF & IE & 0x1F` (60_exceptions.md R500). -/
def State.pending (s : State) : BitVec 5 := s.irq.iflag &&& s.irq.ie.extractLsb' 0 5

/-- `period(TAC[1:0])` in M-cycles (R540). -/
def timerPeriod (tac : BitVec 3) : Nat :=
  match (tac.extractLsb' 0 2).toNat with
  | 0 => 256
  | 1 => 4
  | 2 => 16
  | _ => 64

/-- `TimaInc()` (R541). -/
def State.timaInc (s : State) : State :=
  if s.timer.tima = 0xFF then State.request { s with timer := { s.timer with tima := s.timer.tma } } 2
  else { s with timer := { s.timer with tima := s.timer.tima + 1 } }

/-- `TimerTick()` (R540). -/
def State.timerTick (s : State) : State :=
  let s1 := { s with timer := { s.timer with sys := s.timer.sys + 1 } }
  if s1.timer.tac.getLsbD 2 && s1.timer.sys.toNat % timerPeriod s1.timer.tac == 0 then s1.timaInc else s1

/-- A write to DIV, and STOP, set `sys <- 0` (10_state.md R53, 46_system.md R442). -/
def State.resetDivider (s : State) : State := { s with timer := { s.timer with sys := 0 } }

/-- `SerialTick()` (R575). The received byte is a free value (notes/assumptions/1.md). -/
def State.serialTick (s : State) : State :=
  if s.ser.count = 0 then s
  else if s.ser.count = 1 then
    State.request { s with ser := { s.ser with sb := Config.serialByte s.cycles, start := false, count := 0 } } 3
  else { s with ser := { s.ser with count := s.ser.count - 1 } }

/-- A CPU write to SC: bits 7 and 0 are stored; an internal-clock start loads the count and a write with bit 7 clear ends
the transfer (10_state.md R58, R575). DESIGN CHOICE (notes/assumptions/20.md): a write with bit 7 set and bit 0 clear keeps
the count, so an internal-clock transfer that runs goes on to its end. -/
def State.writeSc (s : State) (v : Byte) : State :=
  let start := v.getLsbD 7
  let clock := v.getLsbD 0
  let count := if start then (if clock then 1024 else s.ser.count) else 0
  { s with ser := { s.ser with start := start, clock := clock, count := count } }

/-- `P1_low` (R570): a group takes part when its select bit is 0. -/
def Joypad.low (j : Joypad) : BitVec 4 :=
  (if j.sel.getLsbD 1 then 0xF else j.buttons) &&& (if j.sel.getLsbD 0 then 0xF else j.dirs)

/-- What P1 reads: `0xC0 | (sel << 4) | P1_low` (R570). -/
def Joypad.read (j : Joypad) : Byte := (3 : BitVec 2) ++ j.sel ++ j.low

/-- The edge check of R571: any bit that was 1 in `p1_last` and is 0 now requests interrupt 4; then `p1_last <- P1_low`. -/
def State.joypadCheck (s : State) : State :=
  let low := s.joy.low
  let s1 := { s with joy := { s.joy with last := low } }
  if s.joy.last &&& ~~~ low = 0 then s1 else s1.request 4

/-- A CPU write to P1 stores bits 5-4 and runs the edge check (10_state.md R57, R571). -/
def State.writeP1 (s : State) (v : Byte) : State :=
  State.joypadCheck { s with joy := { s.joy with sel := v.extractLsb' 4 2 } }

end Sys2Proof.Machine
end

