-- ==== Sys2Proof/Machine/Picture.lean ====
section
/-! DEFINITION. The PictureTimer (60_exceptions.md R600-R640): the line, unit and mode sequence, the compare, sprite
selection, the window line counter, the line records, and turning the display on and off. -/

namespace Sys2Proof.Machine

/-- STAT's mode field (10_state.md R61). -/
def Mode.code : Mode → BitVec 2
  | .hblank => 0
  | .vblank => 1
  | .oamSearch => 2
  | .transfer => 3

/-- LCDC bit 7, display enable (10_state.md R60). -/
def State.displayOn (s : State) : Bool := s.pic.lcdc.getLsbD 7

/-- `vram_blocked` (20_memory.md R94). -/
def State.vramBlocked (s : State) : Bool := s.displayOn && s.pic.mode == .transfer

/-- `oam_blocked` (20_memory.md R94). -/
def State.oamBlocked (s : State) : Bool := s.displayOn && (s.pic.mode == .oamSearch || s.pic.mode == .transfer)

/-- Sprite height from LCDC bit 2 (R610). -/
def spriteHeight (lcdc : Byte) : Nat := if lcdc.getLsbD 2 then 16 else 8

/-- Whether the sprite with y byte `y` covers `line` (R610). -/
def spriteCovers (h line : Nat) (y : Byte) : Bool := decide (y.toNat ≤ line + 16) && decide (line + 16 < y.toNat + h)

/-- The order of the selected sprites: ascending x byte, then ascending index (R610). -/
def spriteBefore (oam : Store) (i j : Nat) : Bool :=
  let xi := (oam.read (4 * i + 1)).toNat
  let xj := (oam.read (4 * j + 1)).toNat
  decide (xi < xj) || (xi == xj && decide (i < j))

/-- Put index `i` into a list already in order. -/
def insertSprite (oam : Store) (i : Nat) : List Nat → List Nat
  | [] => [i]
  | j :: rest => if spriteBefore oam i j then i :: j :: rest else j :: insertSprite oam i rest

/-- Put the chosen indexes in order (R610). -/
def sortSprites (oam : Store) : List Nat → List Nat
  | [] => []
  | i :: rest => insertSprite oam i (sortSprites oam rest)

/-- The first ten indexes in table order whose sprite covers the line (R610). -/
def chooseSprites (oam : Store) (lcdc : Byte) (line : Nat) : List Nat :=
  ((List.range 40).filter (fun i => spriteCovers (spriteHeight lcdc) line (oam.read (4 * i)))).take 10

/-- `SelectSprites(line)` (R610). OAM is read directly, so it is never blocked. -/
def selectSprites (oam : Store) (lcdc : Byte) (line : Nat) : List Nat := sortSprites oam (chooseSprites oam lcdc line)

/-- `Request(1)` when the STAT enable bit `b` is set; bit 0 of `statEn` is STAT bit 3 (R613). -/
def State.statRequest (s : State) (b : Nat) : State := if s.pic.statEn.getLsbD b then s.request 1 else s

/-- One sprite of a line record (R640). -/
def spriteRecord (oam : Store) (i : Nat) : SpriteRecord :=
  { index := i, y := oam.read (4 * i), x := oam.read (4 * i + 1), tile := oam.read (4 * i + 2), attr := oam.read (4 * i + 3) }

/-- Whether the window is on for the current line: `LCDC[5] = 1 and ly >= WY` (R625, R640). -/
def State.windowOn (s : State) : Bool := s.pic.lcdc.getLsbD 5 && decide (s.pic.ly ≥ s.pic.wy.toNat)

/-- The line record of the current line (R640). -/
def State.lineRecord (s : State) : LineRecord :=
  { ly := s.pic.ly, scx := s.pic.scx, scy := s.pic.scy, wx := s.pic.wx, wy := s.pic.wy
    winLine := s.pic.winLine, winOn := s.windowOn, lcdc := s.pic.lcdc, bgp := s.pic.bgp
    obp0 := s.pic.obp0, obp1 := s.pic.obp1, sprites := s.pic.lineSprites.map (spriteRecord s.mem.oam) }

/-- `EmitLine()` (R640). -/
def State.emitLine (s : State) : State := { s with pic := { s.pic with lines := s.lineRecord :: s.pic.lines } }

/-- `WindowCount()` (R625). -/
def State.windowCount (s : State) : State :=
  if s.windowOn then { s with pic := { s.pic with winLine := s.pic.winLine + 1 } } else s

/-- The compare of `LineStart()`: latch `ly = LYC` and request on a match (R603, R620). -/
def State.lineCompare (s : State) : State :=
  let coinc := s.pic.ly == s.pic.lyc.toNat
  let s1 := { s with pic := { s.pic with coinc := coinc } }
  if coinc then s1.statRequest 3 else s1

/-- `LineStart()` (R603). -/
def State.lineStart (s : State) : State :=
  let s1 := if s.pic.ly = 0 then { s with pic := { s.pic with winLine := 0 } } else s
  let s2 := s1.lineCompare
  if s2.pic.ly < 144 then
    let s3 := State.statRequest { s2 with pic := { s2.pic with mode := .oamSearch } } 2
    { s3 with pic := { s3.pic with lineSprites := selectSprites s3.mem.oam s3.pic.lcdc s3.pic.ly } }
  else if s2.pic.ly = 144 then
    let s3 := State.statRequest (State.request { s2 with pic := { s2.pic with mode := .vblank } } 0) 1
    { s3 with pic := { s3.pic with lineSprites := [], frameDone := true } }
  else s2

/-- `OffTick()` (R631). -/
def State.offTick (s : State) : State :=
  if s.pic.offCount + 1 = 17556 then { s with pic := { s.pic with offCount := 0, frameDone := true } }
  else { s with pic := { s.pic with offCount := s.pic.offCount + 1 } }

/-- The part of `PpuTick()` that runs while the display is on (R602). -/
def State.lineTick (s : State) : State :=
  let u := s.pic.u + 1
  if u = 114 then State.lineStart { s with pic := { s.pic with u := 0, ly := (s.pic.ly + 1) % 154 } }
  else if s.pic.ly < 144 ∧ u = 20 then
    State.windowCount (State.emitLine { s with pic := { s.pic with u := u, mode := .transfer } })
  else if s.pic.ly < 144 ∧ u = 63 then
    State.statRequest { s with pic := { s.pic with u := u, mode := .hblank } } 0
  else { s with pic := { s.pic with u := u } }

/-- `PpuTick()` (R602). -/
def State.ppuTick (s : State) : State := if s.displayOn then s.lineTick else s.offTick

/-- Turning the display off (R630). -/
def State.displayOff (s : State) : State :=
  { s with pic := { s.pic with ly := 0, u := 0, mode := .hblank, lineSprites := [], offCount := 0 } }

/-- Turning the display on (R630). -/
def State.displayStart (s : State) : State :=
  { s with pic := { s.pic with
      ly := 0, u := 0, mode := .oamSearch, winLine := 0, coinc := s.pic.lyc == 0
      lineSprites := selectSprites s.mem.oam s.pic.lcdc 0 } }

/-- A CPU write to LCDC: the byte is stored, then a change of bit 7 takes effect (R630, notes/assumptions/7.md). -/
def State.writeLcdc (s : State) (v : Byte) : State :=
  let s1 := { s with pic := { s.pic with lcdc := v } }
  match s.displayOn, v.getLsbD 7 with
  | true, false => s1.displayOff
  | false, true => s1.displayStart
  | _, _ => s1

/-- What STAT reads: `1 : enables : coinc : mode` (10_state.md R61). -/
def State.readStat (s : State) : Byte :=
  (1 : BitVec 1) ++ s.pic.statEn ++ BitVec.ofBool s.pic.coinc ++ s.pic.mode.code

/-- What LY reads (10_state.md R63). -/
def State.readLy (s : State) : Byte := if s.displayOn then BitVec.ofNat 8 s.pic.ly else 0

end Sys2Proof.Machine
end

