-- ==== Sys2Proof/Machine/Sound.lean ====
section
/-! DEFINITION. The SoundTimer (60_exceptions.md R660-R690): the sound registers, the frame sequencer, length counters,
envelopes, the sweep, triggers, sound power and the sample records. -/

namespace Sys2Proof.Machine

/-- The stored sound registers 0xFF10-0xFF25 (10_state.md R70-R74). -/
inductive SoundReg where
  | nr10 | nr11 | nr12 | nr13 | nr14
  | nr21 | nr22 | nr23 | nr24
  | nr30 | nr31 | nr32 | nr33 | nr34
  | nr41 | nr42 | nr43 | nr44
  | nr50 | nr51
  deriving DecidableEq, Repr

/-- The stored byte of a sound register. -/
def Sound.get (n : Sound) : SoundReg → Byte
  | .nr10 => n.nr10 | .nr11 => n.nr11 | .nr12 => n.nr12 | .nr13 => n.nr13 | .nr14 => n.nr14
  | .nr21 => n.nr21 | .nr22 => n.nr22 | .nr23 => n.nr23 | .nr24 => n.nr24
  | .nr30 => n.nr30 | .nr31 => n.nr31 | .nr32 => n.nr32 | .nr33 => n.nr33 | .nr34 => n.nr34
  | .nr41 => n.nr41 | .nr42 => n.nr42 | .nr43 => n.nr43 | .nr44 => n.nr44
  | .nr50 => n.nr50 | .nr51 => n.nr51

/-- Store a whole byte in a sound register (R70). -/
def Sound.store (n : Sound) (r : SoundReg) (v : Byte) : Sound :=
  match r with
  | .nr10 => { n with nr10 := v } | .nr11 => { n with nr11 := v } | .nr12 => { n with nr12 := v }
  | .nr13 => { n with nr13 := v } | .nr14 => { n with nr14 := v }
  | .nr21 => { n with nr21 := v } | .nr22 => { n with nr22 := v }
  | .nr23 => { n with nr23 := v } | .nr24 => { n with nr24 := v }
  | .nr30 => { n with nr30 := v } | .nr31 => { n with nr31 := v } | .nr32 => { n with nr32 := v }
  | .nr33 => { n with nr33 := v } | .nr34 => { n with nr34 := v }
  | .nr41 => { n with nr41 := v } | .nr42 => { n with nr42 := v }
  | .nr43 => { n with nr43 := v } | .nr44 => { n with nr44 := v }
  | .nr50 => { n with nr50 := v } | .nr51 => { n with nr51 := v }

/-- The read mask of a sound register (10_state.md R70-R74). -/
def SoundReg.mask : SoundReg → Byte
  | .nr10 => 0x80 | .nr11 => 0x3F | .nr12 => 0x00 | .nr13 => 0xFF | .nr14 => 0xBF
  | .nr21 => 0x3F | .nr22 => 0x00 | .nr23 => 0xFF | .nr24 => 0xBF
  | .nr30 => 0x7F | .nr31 => 0xFF | .nr32 => 0x9F | .nr33 => 0xFF | .nr34 => 0xBF
  | .nr41 => 0xFF | .nr42 => 0x00 | .nr43 => 0x00 | .nr44 => 0xBF
  | .nr50 => 0x00 | .nr51 => 0x00

/-- The 11-bit frequency `NRx4[2:0] : NRx3` (10_state.md R70-R72). -/
def freq11 (lo hi : Byte) : BitVec 11 := hi.extractLsb' 0 3 ++ lo

/-- `DacOn(N)` of channels 1, 2 and 4 (R666). -/
def envDacOn (nrx2 : Byte) : Bool := nrx2.extractLsb' 3 5 != 0

/-- `DacOn(3)` (R666). -/
def waveDacOn (nr30 : Byte) : Bool := nr30.getLsbD 7

/-- The sweep period P, `NR10[6:4]` (R664). -/
def sweepPeriod (nr10 : Byte) : Nat := (nr10.extractLsb' 4 3).toNat

/-- The sweep shift s, `NR10[2:0]` (R664). -/
def sweepShift (nr10 : Byte) : Nat := (nr10.extractLsb' 0 3).toNat

/-- `Calc()` (R664). -/
def sweepCalc (nr10 : Byte) (shadow : BitVec 11) : Nat :=
  let t := shadow.toNat / 2 ^ sweepShift nr10
  if nr10.getLsbD 3 then shadow.toNat - t else shadow.toNat + t

/-- The sweep timer's reload: `(P != 0) ? P : 8` (R664, R665). -/
def sweepReload (nr10 : Byte) : Nat := if sweepPeriod nr10 ≠ 0 then sweepPeriod nr10 else 8

/-- A DAC that is off makes its channel inactive (R666). -/
def Channel.dacCheck (c : Channel) (on : Bool) : Channel := { c with active := c.active && on }

/-- The channel part of `Trigger(N)`: active as the DAC says, and an expired length counter reloaded to its maximum
(R665). -/
def Channel.trigger (c : Channel) (dac : Bool) (maxLen : Nat) : Channel :=
  { active := dac, len := if c.len = 0 then maxLen else c.len }

/-- The envelope part of `Trigger(N)` (R665). -/
def triggerEnvelope (nrx2 : Byte) : Envelope := { vol := nrx2.extractLsb' 4 4, timer := (nrx2.extractLsb' 0 3).toNat }

/-- `Trigger(1)` (R665). -/
def Sound.trigger1 (n : Sound) : Sound :=
  let shadow := freq11 n.nr13 n.nr14
  let p := sweepPeriod n.nr10
  let sh := sweepShift n.nr10
  let ch := n.ch1.trigger (envDacOn n.nr12) 64
  let overflow := sh != 0 && decide (sweepCalc n.nr10 shadow > 2047)
  { n with
    ch1 := { ch with active := ch.active && !overflow }
    env1 := triggerEnvelope n.nr12
    sweep := { shadow := shadow, timer := sweepReload n.nr10, en := p != 0 || sh != 0 } }

/-- `Trigger(2)` (R665). -/
def Sound.trigger2 (n : Sound) : Sound :=
  { n with ch2 := n.ch2.trigger (envDacOn n.nr22) 64, env2 := triggerEnvelope n.nr22 }

/-- `Trigger(3)` (R665). -/
def Sound.trigger3 (n : Sound) : Sound := { n with ch3 := n.ch3.trigger (waveDacOn n.nr30) 256 }

/-- `Trigger(4)` (R665). -/
def Sound.trigger4 (n : Sound) : Sound :=
  { n with ch4 := n.ch4.trigger (envDacOn n.nr42) 64, env4 := triggerEnvelope n.nr42, lfsr := 0x7FFF }

/-- The side effect of a sound register write, after the byte is stored (R668): length load (R662), DAC check (R666),
trigger (R665). -/
def Sound.afterWrite (n : Sound) (r : SoundReg) (v : Byte) : Sound :=
  let len6 := 64 - (v.extractLsb' 0 6).toNat
  match r with
  | .nr11 => { n with ch1 := { n.ch1 with len := len6 } }
  | .nr21 => { n with ch2 := { n.ch2 with len := len6 } }
  | .nr31 => { n with ch3 := { n.ch3 with len := 256 - v.toNat } }
  | .nr41 => { n with ch4 := { n.ch4 with len := len6 } }
  | .nr12 => { n with ch1 := n.ch1.dacCheck (envDacOn v) }
  | .nr22 => { n with ch2 := n.ch2.dacCheck (envDacOn v) }
  | .nr30 => { n with ch3 := n.ch3.dacCheck (waveDacOn v) }
  | .nr42 => { n with ch4 := n.ch4.dacCheck (envDacOn v) }
  | .nr14 => if v.getLsbD 7 then n.trigger1 else n
  | .nr24 => if v.getLsbD 7 then n.trigger2 else n
  | .nr34 => if v.getLsbD 7 then n.trigger3 else n
  | .nr44 => if v.getLsbD 7 then n.trigger4 else n
  | .nr10 | .nr13 | .nr23 | .nr32 | .nr33 | .nr43 | .nr50 | .nr51 => n

/-- A CPU write to 0xFF10-0xFF25: ignored while power is off (R668). -/
def Sound.write (n : Sound) (r : SoundReg) (v : Byte) : Sound :=
  if n.power then (n.store r v).afterWrite r v else n

/-- Sound power off: the stored registers and every channel's state go to 0 (R667). -/
def Sound.powerOff (n : Sound) : Sound :=
  { n with
    nr10 := 0, nr11 := 0, nr12 := 0, nr13 := 0, nr14 := 0, nr21 := 0, nr22 := 0, nr23 := 0, nr24 := 0
    nr30 := 0, nr31 := 0, nr32 := 0, nr33 := 0, nr34 := 0, nr41 := 0, nr42 := 0, nr43 := 0, nr44 := 0
    nr50 := 0, nr51 := 0, power := false
    ch1 := Channel.off, ch2 := Channel.off, ch3 := Channel.off, ch4 := Channel.off
    env1 := Envelope.off, env2 := Envelope.off, env4 := Envelope.off, sweep := Sweep.off }

/-- A CPU write to NR52 (R667). -/
def Sound.writeNr52 (n : Sound) (v : Byte) : Sound :=
  match n.power, v.getLsbD 7 with
  | true, false => n.powerOff
  | false, true => { n with power := true, fsCount := 0, fsStep := 0 }
  | _, _ => n

/-- What NR52 reads: `power : 111 : act4 : act3 : act2 : act1` (10_state.md R74). -/
def Sound.readNr52 (n : Sound) : Byte :=
  BitVec.ofBool n.power ++ (7 : BitVec 3) ++ BitVec.ofBool n.ch4.active ++ BitVec.ofBool n.ch3.active
    ++ BitVec.ofBool n.ch2.active ++ BitVec.ofBool n.ch1.active

/-- `LengthClock()` for one channel (R661). -/
def Channel.lengthClock (c : Channel) (nrx4 : Byte) : Channel :=
  if nrx4.getLsbD 6 && decide (c.len > 0) then { active := c.active && c.len != 1, len := c.len - 1 } else c

/-- `LengthClock()` (R661). -/
def Sound.lengthClock (n : Sound) : Sound :=
  { n with
    ch1 := n.ch1.lengthClock n.nr14, ch2 := n.ch2.lengthClock n.nr24
    ch3 := n.ch3.lengthClock n.nr34, ch4 := n.ch4.lengthClock n.nr44 }

/-- The volume after one envelope step (R663). -/
def volStep (nrx2 : Byte) (vol : BitVec 4) : BitVec 4 :=
  if nrx2.getLsbD 3 then (if vol.toNat < 15 then vol + 1 else vol) else (if vol.toNat > 0 then vol - 1 else vol)

/-- `EnvClock()` for one channel (R663). `below` is what the timer holds after a decrement from 0, a free value
(notes/assumptions/2.md). -/
def Envelope.clock (e : Envelope) (nrx2 : Byte) (active : Bool) (below : Nat) : Envelope :=
  let p := (nrx2.extractLsb' 0 3).toNat
  if active && p != 0 then
    let t := if e.timer = 0 then below else e.timer - 1
    if t = 0 then { vol := volStep nrx2 e.vol, timer := p } else { e with timer := t }
  else e

/-- `EnvClock()` (R663) at M-cycle count `now`. -/
def Sound.envClock (n : Sound) (now : Nat) : Sound :=
  { n with
    env1 := n.env1.clock n.nr12 n.ch1.active (Config.envTimerBelowZero now 1).val
    env2 := n.env2.clock n.nr22 n.ch2.active (Config.envTimerBelowZero now 2).val
    env4 := n.env4.clock n.nr42 n.ch4.active (Config.envTimerBelowZero now 4).val }

/-- The sweep step of `SweepClock()` once its timer has run out (R664). -/
def Sound.sweepStep (n : Sound) : Sound :=
  let f := sweepCalc n.nr10 n.sweep.shadow
  if f > 2047 then { n with ch1 := { n.ch1 with active := false } }
  else if sweepShift n.nr10 ≠ 0 then
    let f11 := BitVec.ofNat 11 f
    let again := sweepCalc n.nr10 f11
    { n with
      sweep := { n.sweep with shadow := f11 }
      nr13 := f11.extractLsb' 0 8
      nr14 := n.nr14.extractLsb' 3 5 ++ f11.extractLsb' 8 3
      ch1 := { n.ch1 with active := n.ch1.active && !decide (again > 2047) } }
  else n

/-- `SweepClock()` (R664). -/
def Sound.sweepClock (n : Sound) : Sound :=
  if n.sweep.timer = 0 then n
  else if n.sweep.timer = 1 then
    let n1 := { n with sweep := { n.sweep with timer := sweepReload n.nr10 } }
    if n1.sweep.en && sweepPeriod n.nr10 != 0 then n1.sweepStep else n1
  else { n with sweep := { n.sweep with timer := n.sweep.timer - 1 } }

/-- One step of the frame sequencer (R660): length on even steps, sweep on 2 and 6, envelope on 7. -/
def Sound.sequencerStep (n : Sound) (now : Nat) : Sound :=
  let n1 := if n.fsStep % 2 = 0 then n.lengthClock else n
  let n2 := if n.fsStep = 2 ∨ n.fsStep = 6 then n1.sweepClock else n1
  let n3 := if n.fsStep = 7 then n2.envClock now else n2
  { n3 with fsStep := (n.fsStep + 1) % 8 }

/-- The sample record (R690). An inactive channel has volume 0. -/
def State.sampleRecord (s : State) : SampleRecord :=
  let n := s.snd
  { freq1 := freq11 n.nr13 n.nr14, vol1 := if n.ch1.active then n.env1.vol else 0, duty1 := n.nr11.extractLsb' 6 2
    freq2 := freq11 n.nr23 n.nr24, vol2 := if n.ch2.active then n.env2.vol else 0, duty2 := n.nr21.extractLsb' 6 2
    freq3 := freq11 n.nr33 n.nr34, level3 := if n.ch3.active then n.nr32.extractLsb' 5 2 else 0
    wave3 := s.mem.wave.slice 0 16
    shift4 := n.nr43.extractLsb' 4 4, divisor4 := n.nr43.extractLsb' 0 3
    vol4 := if n.ch4.active then n.env4.vol else 0, width4 := n.nr43.getLsbD 3
    nr50 := n.nr50, nr51 := n.nr51, power := n.power }

/-- `SampleTick()` (R690). -/
def State.sampleTick (s : State) : State :=
  let k := (s.snd.sampleCount + 1) % s.samplePeriod
  let samples := if k = 0 then s.sampleRecord :: s.snd.samples else s.snd.samples
  { s with snd := { s.snd with sampleCount := k, samples := samples } }

/-- The frame-sequencer part of `ApuTick()` while power is on (R660). -/
def Sound.sequencerTick (n : Sound) (now : Nat) : Sound :=
  if n.fsCount + 1 = 2048 then Sound.sequencerStep { n with fsCount := 0 } now
  else { n with fsCount := n.fsCount + 1 }

/-- `ApuTick()` (R660). -/
def State.apuTick (s : State) : State :=
  let s1 := s.sampleTick
  if s1.snd.power then { s1 with snd := s1.snd.sequencerTick s1.cycles } else s1

end Sys2Proof.Machine
end

