-- ==== Sys2Proof/Machine/Bus.lean ====
section
/-! DEFINITION. The bus: the I/O register block (10_state.md R78, 20_memory.md R92, R93), the CPU's byte read and write
(R90, R91), the blocking of VRAM and OAM (R94) and OAM DMA (R140). -/

namespace Sys2Proof.Machine

/-- The registers of the I/O block (10_state.md R78). -/
inductive IoReg where
  | p1 | sb | sc | div | tima | tma | tac | iflag
  | sound (r : SoundReg)
  | nr52
  | wave (k : Nat)
  | lcdc | stat | scy | scx | ly | lyc | dma | bgp | obp0 | obp1 | wy | wx
  | boot
  deriving DecidableEq, Repr

/-- The sound register at an offset from 0xFF00; 0x15, 0x1F and everything outside 0x10-0x25 is none (R70-R74). -/
def soundRegAt : Nat → Option SoundReg
  | 0x10 => some .nr10 | 0x11 => some .nr11 | 0x12 => some .nr12 | 0x13 => some .nr13 | 0x14 => some .nr14
  | 0x16 => some .nr21 | 0x17 => some .nr22 | 0x18 => some .nr23 | 0x19 => some .nr24
  | 0x1A => some .nr30 | 0x1B => some .nr31 | 0x1C => some .nr32 | 0x1D => some .nr33 | 0x1E => some .nr34
  | 0x20 => some .nr41 | 0x21 => some .nr42 | 0x22 => some .nr43 | 0x23 => some .nr44
  | 0x24 => some .nr50 | 0x25 => some .nr51
  | _ => none

/-- The register at an offset from 0xFF00 that is neither a sound register nor wave RAM (R78). -/
def plainRegAt : Nat → Option IoReg
  | 0x00 => some .p1 | 0x01 => some .sb | 0x02 => some .sc
  | 0x04 => some .div | 0x05 => some .tima | 0x06 => some .tma | 0x07 => some .tac | 0x0F => some .iflag
  | 0x26 => some .nr52
  | 0x40 => some .lcdc | 0x41 => some .stat | 0x42 => some .scy | 0x43 => some .scx | 0x44 => some .ly
  | 0x45 => some .lyc | 0x46 => some .dma | 0x47 => some .bgp | 0x48 => some .obp0 | 0x49 => some .obp1
  | 0x4A => some .wy | 0x4B => some .wx | 0x50 => some .boot
  | _ => none

/-- The register at an offset from 0xFF00; none for an unmapped offset (R78). -/
def ioRegAt (off : Nat) : Option IoReg :=
  if 0x30 ≤ off ∧ off ≤ 0x3F then some (.wave (off - 0x30))
  else match soundRegAt off with
    | some r => some (.sound r)
    | none => plainRegAt off

/-- What a mapped I/O register reads (R92). -/
def State.readReg (s : State) : IoReg → Byte
  | .p1 => s.joy.read
  | .sb => s.ser.sb
  | .sc => BitVec.ofBool s.ser.start ++ (0x3F : BitVec 6) ++ BitVec.ofBool s.ser.clock
  | .div => s.timer.sys.extractLsb' 6 8
  | .tima => s.timer.tima
  | .tma => s.timer.tma
  | .tac => (0x1F : BitVec 5) ++ s.timer.tac
  | .iflag => (7 : BitVec 3) ++ s.irq.iflag
  | .sound r => s.snd.get r ||| r.mask
  | .nr52 => s.snd.readNr52
  | .wave k => s.mem.wave.read k
  | .lcdc => s.pic.lcdc
  | .stat => s.readStat
  | .scy => s.pic.scy
  | .scx => s.pic.scx
  | .ly => s.readLy
  | .lyc => s.pic.lyc
  | .dma => s.pic.dma
  | .bgp => s.pic.bgp
  | .obp0 => s.pic.obp0
  | .obp1 => s.pic.obp1
  | .wy => s.pic.wy
  | .wx => s.pic.wx
  | .boot => 0xFF

/-- `IoRead(a)` by the offset from 0xFF00: an unmapped offset reads 0xFF (R92). -/
def State.ioRead (s : State) (off : Nat) : Byte :=
  match ioRegAt off with
  | some r => s.readReg r
  | none => 0xFF

/-- The boot overlay, if it is active: BOOT_ROM present and `boot_off = 0` (R81). -/
def State.overlay (s : State) : Option Store := if s.bootOff then none else s.bootRom

/-- `MemRead(a, 1)` with the two blocking conditions given (R90). A read of 0xFEA0-0xFEFF is a free value
(notes/assumptions/1.md). -/
def State.readWith (s : State) (vramBlocked oamBlocked : Bool) (a : Word) : Byte :=
  let n := a.toNat
  if n ≤ 0x3FFF then
    match s.overlay with
    | some boot => if n ≤ 0x00FF then boot.read n else s.romRead s.bank.bank0 n
    | none => s.romRead s.bank.bank0 n
  else if n ≤ 0x7FFF then s.romRead s.bank.bankN (n - 0x4000)
  else if n ≤ 0x9FFF then (if vramBlocked then 0xFF else s.mem.vram.read (n - 0x8000))
  else if n ≤ 0xBFFF then s.extRamRead a
  else if n ≤ 0xDFFF then s.mem.wram.read (n - 0xC000)
  else if n ≤ 0xFDFF then s.mem.wram.read (n - 0xE000)
  else if n ≤ 0xFE9F then (if oamBlocked then 0xFF else s.mem.oam.read (n - 0xFE00))
  else if n ≤ 0xFEFF then Config.unusableRead s.cycles a
  else if n ≤ 0xFF7F then s.ioRead (n - 0xFF00)
  else if n ≤ 0xFFFE then s.mem.hram.read (n - 0xFF80)
  else s.irq.ie

/-- `MemRead(a, 1)` (R90, R94). No read changes any state (R95), so it answers a byte and nothing else. -/
def State.busRead (s : State) (a : Word) : Byte := s.readWith s.vramBlocked s.oamBlocked a

/-- `RawRead(a)`: never blocked (R140). -/
def State.rawRead (s : State) (a : Word) : Byte := s.readWith false false a

/-- The loop of OAM DMA from byte `i` on, `k` bytes still to copy (R140). -/
def State.dmaLoop (s : State) (v : Byte) : Nat → Nat → State
  | 0, _ => s
  | k + 1, i =>
    let src : Word := Word.ofBytes v 0 + BitVec.ofNat 16 i
    State.dmaLoop { s with mem := { s.mem with oam := s.mem.oam.write i (s.rawRead src) } } v k (i + 1)

/-- A write to DMA: the register is stored and 160 bytes are copied at once (R140). -/
def State.writeDma (s : State) (v : Byte) : State :=
  State.dmaLoop { s with pic := { s.pic with dma := v } } v 160 0

/-- The write behaviour of a mapped I/O register (R93, 10_state.md R78). -/
def State.writeReg (s : State) (r : IoReg) (v : Byte) : State :=
  match r with
  | .p1 => s.writeP1 v
  | .sb => { s with ser := { s.ser with sb := v } }
  | .sc => s.writeSc v
  | .div => s.resetDivider
  | .tima => { s with timer := { s.timer with tima := v } }
  | .tma => { s with timer := { s.timer with tma := v } }
  | .tac => { s with timer := { s.timer with tac := v.extractLsb' 0 3 } }
  | .iflag => { s with irq := { s.irq with iflag := v.extractLsb' 0 5 } }
  | .sound r => { s with snd := s.snd.write r v }
  | .nr52 => { s with snd := s.snd.writeNr52 v }
  | .wave k => { s with mem := { s.mem with wave := s.mem.wave.write k v } }
  | .lcdc => s.writeLcdc v
  | .stat => { s with pic := { s.pic with statEn := v.extractLsb' 3 4 } }
  | .scy => { s with pic := { s.pic with scy := v } }
  | .scx => { s with pic := { s.pic with scx := v } }
  | .ly => s
  | .lyc => { s with pic := { s.pic with lyc := v } }
  | .dma => s.writeDma v
  | .bgp => { s with pic := { s.pic with bgp := v } }
  | .obp0 => { s with pic := { s.pic with obp0 := v } }
  | .obp1 => { s with pic := { s.pic with obp1 := v } }
  | .wy => { s with pic := { s.pic with wy := v } }
  | .wx => { s with pic := { s.pic with wx := v } }
  | .boot => if v = 0 then s else { s with bootOff := true }

/-- `IoWrite(a, v)` by the offset from 0xFF00: an unmapped offset ignores it (R93). -/
def State.ioWrite (s : State) (off : Nat) (v : Byte) : State :=
  match ioRegAt off with
  | some r => s.writeReg r v
  | none => s

/-- `MemWrite(a, 1, v)` (R91, R94). -/
def State.busWrite (s : State) (a : Word) (v : Byte) : State :=
  let n := a.toNat
  if n ≤ 0x7FFF then { s with bank := s.bank.write a v }
  else if n ≤ 0x9FFF then
    (if s.vramBlocked then s else { s with mem := { s.mem with vram := s.mem.vram.write (n - 0x8000) v } })
  else if n ≤ 0xBFFF then s.extRamWrite a v
  else if n ≤ 0xDFFF then { s with mem := { s.mem with wram := s.mem.wram.write (n - 0xC000) v } }
  else if n ≤ 0xFDFF then { s with mem := { s.mem with wram := s.mem.wram.write (n - 0xE000) v } }
  else if n ≤ 0xFE9F then
    (if s.oamBlocked then s else { s with mem := { s.mem with oam := s.mem.oam.write (n - 0xFE00) v } })
  else if n ≤ 0xFEFF then s
  else if n ≤ 0xFF7F then s.ioWrite (n - 0xFF00) v
  else if n ≤ 0xFFFE then { s with mem := { s.mem with hram := s.mem.hram.write (n - 0xFF80) v } }
  else { s with irq := { s.irq with ie := v } }

end Sys2Proof.Machine
end

