-- ==== Sys2Proof/Machine/Flags.lean ====
section
/-! DEFINITION. The flag computations of 42_alu_8bit.md, 43_alu_16bit.md and 44_rotate_shift_bit.md. Sums and differences are
taken exactly on integers and truncated at the end (42_alu_8bit.md R280). -/

namespace Sys2Proof.Machine

/-- A byte result with the four flags. -/
structure AluOut where
  res : Byte
  z : Bool
  n : Bool
  h : Bool
  c : Bool
  deriving DecidableEq, Repr

/-- A word result with the flags H and C. -/
structure WordOut where
  res : Word
  h : Bool
  c : Bool
  deriving DecidableEq, Repr

/-- `Add8(a, b, cin)` (R280). -/
def add8 (a b : Byte) (cin : Bool) : AluOut :=
  let s := a.toNat + b.toNat + cin.toNat
  let res := BitVec.ofNat 8 s
  { res := res, z := res == 0, n := false
    h := decide (a.toNat % 16 + b.toNat % 16 + cin.toNat > 0xF), c := decide (s > 0xFF) }

/-- `Sub8(a, b, cin)` (R280). -/
def sub8 (a b : Byte) (cin : Bool) : AluOut :=
  let d : Int := (a.toNat : Int) - b.toNat - cin.toNat
  let res := BitVec.ofInt 8 d
  { res := res, z := res == 0, n := true
    h := decide ((a.toNat % 16 : Int) - (b.toNat % 16 : Int) - cin.toNat < 0), c := decide (d < 0) }

/-- `A & v` with the flags of R293. -/
def and8 (a v : Byte) : AluOut := { res := a &&& v, z := a &&& v == 0, n := false, h := true, c := false }

/-- `A ^ v` with the flags of R296. -/
def xor8 (a v : Byte) : AluOut := { res := a ^^^ v, z := a ^^^ v == 0, n := false, h := false, c := false }

/-- `A | v` with the flags of R299. -/
def or8 (a v : Byte) : AluOut := { res := a ||| v, z := a ||| v == 0, n := false, h := false, c := false }

/-- `INC` of a byte; C is passed through (R305). -/
def inc8 (v : Byte) (c : Bool) : AluOut :=
  { res := v + 1, z := v + 1 == 0, n := false, h := v.toNat % 16 == 0xF, c := c }

/-- `DEC` of a byte; C is passed through (R307). -/
def dec8 (v : Byte) (c : Bool) : AluOut :=
  { res := v - 1, z := v - 1 == 0, n := true, h := v.toNat % 16 == 0, c := c }

/-- The two adjustments of `DAA` on A and C, in the order of R309. -/
def daaAdjust (a : Byte) (n h c : Bool) : Byte × Bool :=
  if n then
    let a1 := if c then a - 0x60 else a
    (if h then a1 - 0x06 else a1, c)
  else
    let high := c || decide (a.toNat > 0x99)
    let a1 := if high then a + 0x60 else a
    (if h || decide (a1.toNat % 16 > 9) then a1 + 0x06 else a1, high)

/-- `DAA`: N is unchanged and H cleared (R309). -/
def daa8 (a : Byte) (n h c : Bool) : AluOut :=
  let r := daaAdjust a n h c
  { res := r.1, z := r.1 == 0, n := n, h := false, c := r.2 }

/-- `alu[y]` on A and an operand (30_encoding.md R162, 42_alu_8bit.md R281-R304). `CP` computes `SUB` and its result is
not stored. -/
def alu8 (op : AluOp) (a v : Byte) (c : Bool) : AluOut :=
  match op with
  | .add => add8 a v false
  | .adc => add8 a v c
  | .sub => sub8 a v false
  | .sbc => sub8 a v c
  | .and => and8 a v
  | .xor => xor8 a v
  | .or => or8 a v
  | .cp => sub8 a v false

/-- `ADD HL,rr` (43_alu_16bit.md R330): H is the carry out of bit 11, C out of bit 15. -/
def addWord (hl v : Word) : WordOut :=
  { res := hl + v
    h := decide (hl.toNat % 0x1000 + v.toNat % 0x1000 > 0xFFF), c := decide (hl.toNat + v.toNat > 0xFFFF) }

/-- SP plus a signed byte, with H and C from the unsigned addition of SP's low byte and the raw byte (41_loads_16bit.md
R253, 43_alu_16bit.md R333). -/
def addSigned (sp : Word) (e : Byte) : WordOut :=
  { res := sp + e.signExtend 16
    h := decide (sp.toNat % 16 + e.toNat % 16 > 0xF), c := decide (sp.toNat % 256 + e.toNat > 0xFF) }

/-- `Rot(k, v, cin)`: the result and the carry out (44_rotate_shift_bit.md R350). -/
def rot8 (k : RotOp) (v : Byte) (cin : Bool) : Byte × Bool :=
  match k with
  | .rlc => ((v <<< 1) ||| (v >>> 7), v.getLsbD 7)
  | .rrc => ((v >>> 1) ||| (v <<< 7), v.getLsbD 0)
  | .rl => ((v <<< 1) ||| (if cin then 0x01 else 0x00), v.getLsbD 7)
  | .rr => ((v >>> 1) ||| (if cin then 0x80 else 0x00), v.getLsbD 0)
  | .sla => (v <<< 1, v.getLsbD 7)
  | .sra => ((v >>> 1) ||| (v &&& 0x80), v.getLsbD 0)
  | .swap => ((v <<< 4) ||| (v >>> 4), false)
  | .srl => (v >>> 1, v.getLsbD 0)

/-- The flags of the CB forms: `Z <- (res = 0); N <- 0; H <- 0; C <- c` (R350). -/
def rotOut (k : RotOp) (v : Byte) (cin : Bool) : AluOut :=
  let r := rot8 k v cin
  { res := r.1, z := r.1 == 0, n := false, h := false, c := r.2 }

/-- `1 << b`. -/
def bitMask (b : Fin 8) : Byte := (1 : Byte) <<< b.val

/-- The byte that `RES` or `SET` leaves; `BIT` leaves it as it is (R371-R376). -/
def bitResult (op : BitOp) (b : Fin 8) (v : Byte) : Byte :=
  match op with
  | .bit => v
  | .res => v &&& ~~~ bitMask b
  | .set => v ||| bitMask b

end Sys2Proof.Machine
end

