-- ==== Sys2Proof/Machine/Ops.lean ====
section
/-! DEFINITION. The named operations the meanings are built from: the fetch and stack primitives (00_scope.md R14, R15),
flags and accumulator writes, the lock (R16), taking an interrupt and returning from one (60_exceptions.md R510, R520),
and the advance of the devices (R505). -/

namespace Sys2Proof.Machine

/-- `Fetch8()`: the byte at PC, and PC past it; with `haltbug_pending` set PC stays and the flag is cleared (00_scope.md
R15, 46_system.md R441). -/
def State.fetch8 (s : State) : Byte × State :=
  if s.ctl.haltbugPending then (s.busRead s.regs.pc, { s with ctl := { s.ctl with haltbugPending := false } })
  else (s.busRead s.regs.pc, s.setPc (s.regs.pc + 1))

/-- `MemRead(a, 2)`: low byte at `a`, high byte at `a + 1` modulo 2^16 (R14, 20_memory.md R101). -/
def State.busRead16 (s : State) (a : Word) : Word := Word.ofBytes (s.busRead (a + 1)) (s.busRead a)

/-- `MemWrite(a, 2, v)`: the low byte to `a`, then the high byte to `a + 1` (R14). -/
def State.busWrite16 (s : State) (a : Word) (v : Word) : State := (s.busWrite a v.lo).busWrite (a + 1) v.hi

/-- `Push16(v)`: the high byte to SP - 1, then the low byte to SP - 2 (R15). -/
def State.push16 (s : State) (v : Word) : State :=
  let s1 := (s.setSp (s.regs.sp - 1)).busWrite (s.regs.sp - 1) v.hi
  (s1.setSp (s.regs.sp - 2)).busWrite (s.regs.sp - 2) v.lo

/-- `Pop16()`: the word at SP, and SP past it (R15). -/
def State.pop16 (s : State) : Word × State := (s.busRead16 s.regs.sp, s.setSp (s.regs.sp + 2))

/-- Store a result in A with its flags. -/
def State.setAFlags (s : State) (o : AluOut) : State := (s.setReg .a o.res).setFlags o.z o.n o.h o.c

/-- Keep the flags of a result and drop the result. -/
def State.keepFlags (s : State) (o : AluOut) : State := s.setFlags o.z o.n o.h o.c

/-- `Lock()`: the CPU executes nothing more (R16, 46_system.md R446). -/
def State.lock (s : State) : State := { s with ctl := { s.ctl with locked := true } }

/-- `IME <- b`, with the delayed enable of EI cleared (R443, 45_control_flow.md R412, 60_exceptions.md R510). -/
def State.setIme (s : State) (b : Bool) : State := { s with ctl := { s.ctl with ime := b, imeSched := false } }

/-- Clear bit k of IF. -/
def State.acknowledge (s : State) (k : Nat) : State :=
  { s with irq := { s.irq with iflag := s.irq.iflag &&& ~~~ ((1 : BitVec 5) <<< k) } }

/-- The lowest set bit: fixed vector order, lowest vector first (60_exceptions.md R512). -/
def lowestBit (p : BitVec 5) : Nat :=
  if p.getLsbD 0 then 0 else if p.getLsbD 1 then 1 else if p.getLsbD 2 then 2 else if p.getLsbD 3 then 3 else 4

/-- The vector of interrupt k, `0x40 + 8 * k` (R511). -/
def vectorOf (k : Nat) : Word := 0x0040 + BitVec.ofNat 16 (8 * k)

/-- TAKING AN INTERRUPT, `Dispatch(pend)` (60_exceptions.md R510, R511): the IF bit, IME and the delayed enable are
cleared, PC is pushed, and PC goes to the vector. Nothing else is saved. -/
def State.dispatch (s : State) (pend : BitVec 5) : State :=
  let k := lowestBit pend
  (((s.acknowledge k).setIme false).push16 s.regs.pc).setPc (vectorOf k)

/-- RETURNING FROM AN INTERRUPT (60_exceptions.md R520, 45_control_flow.md R412): PC is popped and IME is 1 at once. -/
def State.returnFromInterrupt (s : State) : State :=
  let p := s.pop16
  (p.2.setPc p.1).setIme true

/-- Waking: any enabled pending interrupt clears `halted` and `stopped`, whatever IME is (60_exceptions.md R501). -/
def State.wake (s : State) : State :=
  if s.pending = 0 then s else { s with ctl := { s.ctl with halted := false, stopped := false } }

/-- The end of an instruction step: a delayed enable that was armed before the instruction and survived it sets IME
(60_exceptions.md R503). -/
def State.retireEi (s : State) (armed : Bool) : State :=
  if armed && s.ctl.imeSched then s.setIme true else s

/-- One M-cycle of all devices, in the order of 60_exceptions.md R505. -/
def State.tick (s : State) : State := s.timerTick.serialTick.ppuTick.apuTick

/-- `n` M-cycles of all devices (R505). -/
def State.ticks : Nat → State → State
  | 0, s => s
  | n + 1, s => State.ticks n s.tick

/-- The end of a step of `n` M-cycles: the cycle counter, then the devices (60_exceptions.md R500, R505). -/
def State.advance (s : State) (n : Nat) : State := State.ticks n { s with cycles := s.cycles + n }

end Sys2Proof.Machine
end

