-- ==== Sys2Proof/Machine/Place.lean ====
section
/-! DEFINITION. Putting bytes where the next fetch reads them, from outside the machine: what loading a cartridge image does
before a run (00_scope.md R11). No step uses it. -/

namespace Sys2Proof.Machine

/-- Whether a fetch at `a` reads a byte of ROM, VRAM, WRAM, OAM or HRAM now. -/
def State.placeable (s : State) (a : Word) : Bool :=
  let n := a.toNat
  if n ≤ 0x7FFF then true
  else if n ≤ 0x9FFF then !s.vramBlocked
  else if n ≤ 0xBFFF then false
  else if n ≤ 0xFDFF then true
  else if n ≤ 0xFE9F then !s.oamBlocked
  else decide (0xFF80 ≤ n) && decide (n ≤ 0xFFFE)

/-- Put a byte into the memory that answers `a` (20_memory.md R90); nothing where `placeable` is false. -/
def State.placeByte (s : State) (a : Word) (v : Byte) : State :=
  let n := a.toNat
  let putRom (k : Nat) : State := { s with mem := { s.mem with rom := s.mem.rom.write k v } }
  if n ≤ 0x3FFF then
    match s.overlay with
    | some boot =>
      if n ≤ 0x00FF then { s with bootRom := some (boot.write n v) } else putRom (s.bank.romIndex s.bank.bank0 n)
    | none => putRom (s.bank.romIndex s.bank.bank0 n)
  else if n ≤ 0x7FFF then putRom (s.bank.romIndex s.bank.bankN (n - 0x4000))
  else if n ≤ 0x9FFF then { s with mem := { s.mem with vram := s.mem.vram.write (n - 0x8000) v } }
  else if n ≤ 0xBFFF then s
  else if n ≤ 0xDFFF then { s with mem := { s.mem with wram := s.mem.wram.write (n - 0xC000) v } }
  else if n ≤ 0xFDFF then { s with mem := { s.mem with wram := s.mem.wram.write (n - 0xE000) v } }
  else if n ≤ 0xFE9F then { s with mem := { s.mem with oam := s.mem.oam.write (n - 0xFE00) v } }
  else if n ≤ 0xFF7F then s
  else if n ≤ 0xFFFE then { s with mem := { s.mem with hram := s.mem.hram.write (n - 0xFF80) v } }
  else s

/-- Put bytes at `a`, `a + 1`, ... -/
def State.placeBytes (s : State) (a : Word) : List Byte → State
  | [] => s
  | v :: rest => State.placeBytes (s.placeByte a v) (a + 1) rest

/-- The state in which the next step is an instruction step: not locked, halted or stopped, no byte to repeat, and no
interrupt to dispatch (60_exceptions.md R500). It is the state itself where that holds already, as at reset. -/
def State.readyToFetch (s : State) : State :=
  { s with ctl := { s.ctl with
      locked := false, halted := false, stopped := false, haltbugPending := false
      ime := s.ctl.ime && s.pending == 0 } }

/-- The state with PC where three bytes can be put: PC as it is, or else the start of WRAM. -/
def State.withRoomAtPc (s : State) : State :=
  if s.placeable s.regs.pc && s.placeable (s.regs.pc + 1) && s.placeable (s.regs.pc + 2) then s else s.setPc 0xC000

/-- Put an instruction's bytes where the next step fetches them. -/
def State.placeNext (s : State) (l : List Byte) : State :=
  let r := s.readyToFetch.withRoomAtPc
  r.placeBytes r.regs.pc l

end Sys2Proof.Machine
end

