-- ==== Sys2Proof/WellFormed.lean ====
section
/-! DEFINITION. Which terms of `Instr` are instructions of the machine. The operand types already hold every field of
30_encoding.md R162 and R164 to its range, so one check is left. -/

namespace Sys2Proof

/-- `PREFIX CB` is no instruction of its own: the byte 0xCB selects the extended set (30_encoding.md R163, 46_system.md
R445), so its words are the words of a CB row, and decoding them gives that row's constructor. Every other term is an
instruction. -/
def Instr.wellFormed : Instr → Bool
  | .prefix_cb _ => false
  | _ => true

end Sys2Proof
end

