-- ==== Sys2Proof/Decode.lean ====
section
/-! DEFINITION. The decoder of 30_encoding.md (the grid of R165, the CB map of R163, the lengths of R173) and, after it,
the encoder written from the same tables. -/

namespace Sys2Proof

/-- `r[.]` of R162: value 6 is no register. -/
def Reg8.ofCode : Nat → Option Reg8
  | 0 => some .b | 1 => some .c | 2 => some .d | 3 => some .e | 4 => some .h | 5 => some .l | 7 => some .a
  | _ => none

/-- The field value of a register in R162. -/
def Reg8.code : Reg8 → Nat
  | .b => 0 | .c => 1 | .d => 2 | .e => 3 | .h => 4 | .l => 5 | .a => 7

/-- `rot[.]` of R162. -/
def RotOp.ofCode : Nat → RotOp
  | 0 => .rlc | 1 => .rrc | 2 => .rl | 3 => .rr | 4 => .sla | 5 => .sra | 6 => .swap | _ => .srl

/-- The extended set (R163): the instruction that the byte after 0xCB selects, by its fields x, y and z (R161). -/
def decodeCb (op2 : Byte) : Instr :=
  let y : Fin 8 := Fin.ofNat 8 (op2.toNat / 8)
  match op2.toNat / 64, Reg8.ofCode (op2.toNat % 8) with
  | 0, some r => Instr.rotReg (RotOp.ofCode y.val) r
  | 0, none => Instr.rotAtHL (RotOp.ofCode y.val)
  | 1, some r => .bit_r y r
  | 1, none => .bit_atHL y
  | 2, some r => .res_r y r
  | 2, none => .res_atHL y
  | _, some r => .set_r y r
  | _, none => .set_atHL y

/-- Row 0x of the grid of R165, by the low nibble of the opcode; `b1` and `b2` are the bytes after it. -/
def decodeRow0 (b1 b2 : Byte) : Nat → Instr
  | 0x0 => .nop
  | 0x1 => .ld_bc_nn (Word.ofBytes b2 b1)
  | 0x2 => .ld_atBC_a
  | 0x3 => .inc_bc
  | 0x4 => .inc_b
  | 0x5 => .dec_b
  | 0x6 => .ld_b_n b1
  | 0x7 => .rlca
  | 0x8 => .ld_atNN_sp (Word.ofBytes b2 b1)
  | 0x9 => .add_hl_bc
  | 0xA => .ld_a_atBC
  | 0xB => .dec_bc
  | 0xC => .inc_c
  | 0xD => .dec_c
  | 0xE => .ld_c_n b1
  | _ => .rrca

/-- Row 1x of the grid of R165, by the low nibble of the opcode; `b1` and `b2` are the bytes after it. -/
def decodeRow1 (b1 b2 : Byte) : Nat → Instr
  | 0x0 => .stop b1
  | 0x1 => .ld_de_nn (Word.ofBytes b2 b1)
  | 0x2 => .ld_atDE_a
  | 0x3 => .inc_de
  | 0x4 => .inc_d
  | 0x5 => .dec_d
  | 0x6 => .ld_d_n b1
  | 0x7 => .rla
  | 0x8 => .jr_e b1
  | 0x9 => .add_hl_de
  | 0xA => .ld_a_atDE
  | 0xB => .dec_de
  | 0xC => .inc_e
  | 0xD => .dec_e
  | 0xE => .ld_e_n b1
  | _ => .rra

/-- Row 2x of the grid of R165, by the low nibble of the opcode; `b1` and `b2` are the bytes after it. -/
def decodeRow2 (b1 b2 : Byte) : Nat → Instr
  | 0x0 => .jr_nz_e b1
  | 0x1 => .ld_hl_nn (Word.ofBytes b2 b1)
  | 0x2 => .ld_atHLinc_a
  | 0x3 => .inc_hl
  | 0x4 => .inc_h
  | 0x5 => .dec_h
  | 0x6 => .ld_h_n b1
  | 0x7 => .daa
  | 0x8 => .jr_z_e b1
  | 0x9 => .add_hl_hl
  | 0xA => .ld_a_atHLinc
  | 0xB => .dec_hl
  | 0xC => .inc_l
  | 0xD => .dec_l
  | 0xE => .ld_l_n b1
  | _ => .cpl

/-- Row 3x of the grid of R165, by the low nibble of the opcode; `b1` and `b2` are the bytes after it. -/
def decodeRow3 (b1 b2 : Byte) : Nat → Instr
  | 0x0 => .jr_nc_e b1
  | 0x1 => .ld_sp_nn (Word.ofBytes b2 b1)
  | 0x2 => .ld_atHLdec_a
  | 0x3 => .inc_sp
  | 0x4 => .inc_atHL
  | 0x5 => .dec_atHL
  | 0x6 => .ld_atHL_n b1
  | 0x7 => .scf
  | 0x8 => .jr_c_e b1
  | 0x9 => .add_hl_sp
  | 0xA => .ld_a_atHLdec
  | 0xB => .dec_sp
  | 0xC => .inc_a
  | 0xD => .dec_a
  | 0xE => .ld_a_n b1
  | _ => .ccf

/-- Row 4x of the grid of R165, by the low nibble of the opcode; `b1` and `b2` are the bytes after it. -/
def decodeRow4 (_b1 _b2 : Byte) : Nat → Instr
  | 0x0 => .ld_b_b
  | 0x1 => .ld_b_c
  | 0x2 => .ld_b_d
  | 0x3 => .ld_b_e
  | 0x4 => .ld_b_h
  | 0x5 => .ld_b_l
  | 0x6 => .ld_b_atHL
  | 0x7 => .ld_b_a
  | 0x8 => .ld_c_b
  | 0x9 => .ld_c_c
  | 0xA => .ld_c_d
  | 0xB => .ld_c_e
  | 0xC => .ld_c_h
  | 0xD => .ld_c_l
  | 0xE => .ld_c_atHL
  | _ => .ld_c_a

/-- Row 5x of the grid of R165, by the low nibble of the opcode; `b1` and `b2` are the bytes after it. -/
def decodeRow5 (_b1 _b2 : Byte) : Nat → Instr
  | 0x0 => .ld_d_b
  | 0x1 => .ld_d_c
  | 0x2 => .ld_d_d
  | 0x3 => .ld_d_e
  | 0x4 => .ld_d_h
  | 0x5 => .ld_d_l
  | 0x6 => .ld_d_atHL
  | 0x7 => .ld_d_a
  | 0x8 => .ld_e_b
  | 0x9 => .ld_e_c
  | 0xA => .ld_e_d
  | 0xB => .ld_e_e
  | 0xC => .ld_e_h
  | 0xD => .ld_e_l
  | 0xE => .ld_e_atHL
  | _ => .ld_e_a

/-- Row 6x of the grid of R165, by the low nibble of the opcode; `b1` and `b2` are the bytes after it. -/
def decodeRow6 (_b1 _b2 : Byte) : Nat → Instr
  | 0x0 => .ld_h_b
  | 0x1 => .ld_h_c
  | 0x2 => .ld_h_d
  | 0x3 => .ld_h_e
  | 0x4 => .ld_h_h
  | 0x5 => .ld_h_l
  | 0x6 => .ld_h_atHL
  | 0x7 => .ld_h_a
  | 0x8 => .ld_l_b
  | 0x9 => .ld_l_c
  | 0xA => .ld_l_d
  | 0xB => .ld_l_e
  | 0xC => .ld_l_h
  | 0xD => .ld_l_l
  | 0xE => .ld_l_atHL
  | _ => .ld_l_a

/-- Row 7x of the grid of R165, by the low nibble of the opcode; `b1` and `b2` are the bytes after it. -/
def decodeRow7 (_b1 _b2 : Byte) : Nat → Instr
  | 0x0 => .ld_atHL_b
  | 0x1 => .ld_atHL_c
  | 0x2 => .ld_atHL_d
  | 0x3 => .ld_atHL_e
  | 0x4 => .ld_atHL_h
  | 0x5 => .ld_atHL_l
  | 0x6 => .halt
  | 0x7 => .ld_atHL_a
  | 0x8 => .ld_a_b
  | 0x9 => .ld_a_c
  | 0xA => .ld_a_d
  | 0xB => .ld_a_e
  | 0xC => .ld_a_h
  | 0xD => .ld_a_l
  | 0xE => .ld_a_atHL
  | _ => .ld_a_a

/-- Row 8x of the grid of R165, by the low nibble of the opcode; `b1` and `b2` are the bytes after it. -/
def decodeRow8 (_b1 _b2 : Byte) : Nat → Instr
  | 0x0 => .add_a_b
  | 0x1 => .add_a_c
  | 0x2 => .add_a_d
  | 0x3 => .add_a_e
  | 0x4 => .add_a_h
  | 0x5 => .add_a_l
  | 0x6 => .add_a_atHL
  | 0x7 => .add_a_a
  | 0x8 => .adc_a_b
  | 0x9 => .adc_a_c
  | 0xA => .adc_a_d
  | 0xB => .adc_a_e
  | 0xC => .adc_a_h
  | 0xD => .adc_a_l
  | 0xE => .adc_a_atHL
  | _ => .adc_a_a

/-- Row 9x of the grid of R165, by the low nibble of the opcode; `b1` and `b2` are the bytes after it. -/
def decodeRow9 (_b1 _b2 : Byte) : Nat → Instr
  | 0x0 => .sub_b
  | 0x1 => .sub_c
  | 0x2 => .sub_d
  | 0x3 => .sub_e
  | 0x4 => .sub_h
  | 0x5 => .sub_l
  | 0x6 => .sub_atHL
  | 0x7 => .sub_a
  | 0x8 => .sbc_a_b
  | 0x9 => .sbc_a_c
  | 0xA => .sbc_a_d
  | 0xB => .sbc_a_e
  | 0xC => .sbc_a_h
  | 0xD => .sbc_a_l
  | 0xE => .sbc_a_atHL
  | _ => .sbc_a_a

/-- Row Ax of the grid of R165, by the low nibble of the opcode; `b1` and `b2` are the bytes after it. -/
def decodeRowA (_b1 _b2 : Byte) : Nat → Instr
  | 0x0 => .and_b
  | 0x1 => .and_c
  | 0x2 => .and_d
  | 0x3 => .and_e
  | 0x4 => .and_h
  | 0x5 => .and_l
  | 0x6 => .and_atHL
  | 0x7 => .and_a
  | 0x8 => .xor_b
  | 0x9 => .xor_c
  | 0xA => .xor_d
  | 0xB => .xor_e
  | 0xC => .xor_h
  | 0xD => .xor_l
  | 0xE => .xor_atHL
  | _ => .xor_a

/-- Row Bx of the grid of R165, by the low nibble of the opcode; `b1` and `b2` are the bytes after it. -/
def decodeRowB (_b1 _b2 : Byte) : Nat → Instr
  | 0x0 => .or_b
  | 0x1 => .or_c
  | 0x2 => .or_d
  | 0x3 => .or_e
  | 0x4 => .or_h
  | 0x5 => .or_l
  | 0x6 => .or_atHL
  | 0x7 => .or_a
  | 0x8 => .cp_b
  | 0x9 => .cp_c
  | 0xA => .cp_d
  | 0xB => .cp_e
  | 0xC => .cp_h
  | 0xD => .cp_l
  | 0xE => .cp_atHL
  | _ => .cp_a

/-- Row Cx of the grid of R165, by the low nibble of the opcode; `b1` and `b2` are the bytes after it. -/
def decodeRowC (b1 b2 : Byte) : Nat → Instr
  | 0x0 => .ret_nz
  | 0x1 => .pop_bc
  | 0x2 => .jp_nz_nn (Word.ofBytes b2 b1)
  | 0x3 => .jp_nn (Word.ofBytes b2 b1)
  | 0x4 => .call_nz_nn (Word.ofBytes b2 b1)
  | 0x5 => .push_bc
  | 0x6 => .add_a_n b1
  | 0x7 => .rst_00
  | 0x8 => .ret_z
  | 0x9 => .ret
  | 0xA => .jp_z_nn (Word.ofBytes b2 b1)
  | 0xB => decodeCb b1
  | 0xC => .call_z_nn (Word.ofBytes b2 b1)
  | 0xD => .call_nn (Word.ofBytes b2 b1)
  | 0xE => .adc_a_n b1
  | _ => .rst_08

/-- Row Dx of the grid of R165, by the low nibble of the opcode; `b1` and `b2` are the bytes after it. -/
def decodeRowD (b1 b2 : Byte) : Nat → Instr
  | 0x0 => .ret_nc
  | 0x1 => .pop_de
  | 0x2 => .jp_nc_nn (Word.ofBytes b2 b1)
  | 0x3 => .illegal_d3
  | 0x4 => .call_nc_nn (Word.ofBytes b2 b1)
  | 0x5 => .push_de
  | 0x6 => .sub_n b1
  | 0x7 => .rst_10
  | 0x8 => .ret_c
  | 0x9 => .reti
  | 0xA => .jp_c_nn (Word.ofBytes b2 b1)
  | 0xB => .illegal_db
  | 0xC => .call_c_nn (Word.ofBytes b2 b1)
  | 0xD => .illegal_dd
  | 0xE => .sbc_a_n b1
  | _ => .rst_18

/-- Row Ex of the grid of R165, by the low nibble of the opcode; `b1` and `b2` are the bytes after it. -/
def decodeRowE (b1 b2 : Byte) : Nat → Instr
  | 0x0 => .ldh_atN_a b1
  | 0x1 => .pop_hl
  | 0x2 => .ld_atC_a
  | 0x3 => .illegal_e3
  | 0x4 => .illegal_e4
  | 0x5 => .push_hl
  | 0x6 => .and_n b1
  | 0x7 => .rst_20
  | 0x8 => .add_sp_e b1
  | 0x9 => .jp_hl
  | 0xA => .ld_atNN_a (Word.ofBytes b2 b1)
  | 0xB => .illegal_eb
  | 0xC => .illegal_ec
  | 0xD => .illegal_ed
  | 0xE => .xor_n b1
  | _ => .rst_28

/-- Row Fx of the grid of R165, by the low nibble of the opcode; `b1` and `b2` are the bytes after it. -/
def decodeRowF (b1 b2 : Byte) : Nat → Instr
  | 0x0 => .ldh_a_atN b1
  | 0x1 => .pop_af
  | 0x2 => .ld_a_atC
  | 0x3 => .di
  | 0x4 => .illegal_f4
  | 0x5 => .push_af
  | 0x6 => .or_n b1
  | 0x7 => .rst_30
  | 0x8 => .ld_hl_spe b1
  | 0x9 => .ld_sp_hl
  | 0xA => .ld_a_atNN (Word.ofBytes b2 b1)
  | 0xB => .ei
  | 0xC => .illegal_fc
  | 0xD => .illegal_fd
  | 0xE => .cp_n b1
  | _ => .rst_38

/-- The instruction whose first byte is `op`, with `b1` and `b2` the two bytes after it; an operand byte the instruction
does not have is not looked at (R165, R174). Every first byte has an instruction: the eleven illegal opcodes have theirs
(R171). -/
def decodeBytes (op b1 b2 : Byte) : Instr :=
  match op.toNat / 16 with
  | 0x0 => decodeRow0 b1 b2 (op.toNat % 16)
  | 0x1 => decodeRow1 b1 b2 (op.toNat % 16)
  | 0x2 => decodeRow2 b1 b2 (op.toNat % 16)
  | 0x3 => decodeRow3 b1 b2 (op.toNat % 16)
  | 0x4 => decodeRow4 b1 b2 (op.toNat % 16)
  | 0x5 => decodeRow5 b1 b2 (op.toNat % 16)
  | 0x6 => decodeRow6 b1 b2 (op.toNat % 16)
  | 0x7 => decodeRow7 b1 b2 (op.toNat % 16)
  | 0x8 => decodeRow8 b1 b2 (op.toNat % 16)
  | 0x9 => decodeRow9 b1 b2 (op.toNat % 16)
  | 0xA => decodeRowA b1 b2 (op.toNat % 16)
  | 0xB => decodeRowB b1 b2 (op.toNat % 16)
  | 0xC => decodeRowC b1 b2 (op.toNat % 16)
  | 0xD => decodeRowD b1 b2 (op.toNat % 16)
  | 0xE => decodeRowE b1 b2 (op.toNat % 16)
  | _ => decodeRowF b1 b2 (op.toNat % 16)

/-- The opcodes followed by two operand bytes (R173). -/
def wordOperandOpcodes : List Byte :=
  [0x01, 0x08, 0x11, 0x21, 0x31, 0xC2, 0xC3, 0xC4, 0xCA,
   0xCC, 0xCD, 0xD2, 0xD4, 0xDA, 0xDC, 0xEA, 0xFA]

/-- The opcodes followed by one operand byte (R173). -/
def byteOperandOpcodes : List Byte :=
  [0x06, 0x0E, 0x10, 0x16, 0x18, 0x1E, 0x20, 0x26, 0x28,
   0x2E, 0x30, 0x36, 0x38, 0x3E, 0xC6, 0xCE, 0xD6, 0xDE,
   0xE0, 0xE6, 0xE8, 0xEE, 0xF0, 0xF6, 0xF8, 0xFE]

/-- The length in bytes of the instruction that begins with `op` (R160, R173). -/
def instrLength (op : Byte) : Nat :=
  if op = 0xCB then 2
  else if op ∈ wordOperandOpcodes then 3
  else if op ∈ byteOperandOpcodes then 2
  else 1

/-- Why a list of bytes holds no instruction. Any three bytes hold one, so only a list that ends too early is refused. -/
inductive DecodeError where
  /-- There is no opcode byte. -/
  | noOpcode
  /-- The operand bytes that the opcode asks for, or the byte after 0xCB, are missing. -/
  | missingOperand
  deriving DecidableEq, Repr

/-- Decode the instruction at the head of a list of bytes, and give the bytes after it. Total: it answers for every list. -/
def decode : List Byte → Except DecodeError (Instr × List Byte)
  | [] => .error .noOpcode
  | op :: rest =>
    match instrLength op, rest with
    | 1, rest => .ok (decodeBytes op 0 0, rest)
    | 2, b1 :: rest => .ok (decodeBytes op b1 0, rest)
    | 3, b1 :: b2 :: rest => .ok (decodeBytes op b1 b2, rest)
    | _, _ => .error .missingOperand

/-- The second byte of a CB row: group `x`, field `y`, and the `z` of a register or of `(HL)` (R161, R163). -/
def cbByte (x y z : Nat) : Byte := BitVec.ofNat 8 (x * 64 + y * 8 + z)

/-- The bytes of an instruction in the order they stand in memory (R160, R165, R163): opcode, then operand bytes, the low
byte of a 16-bit operand first. -/
def encode : Instr → List Byte
  | .nop => [0x00]
  | .ld_bc_nn nn => [0x01, nn.lo, nn.hi]
  | .ld_atBC_a => [0x02]
  | .inc_bc => [0x03]
  | .inc_b => [0x04]
  | .dec_b => [0x05]
  | .ld_b_n n => [0x06, n]
  | .rlca => [0x07]
  | .ld_atNN_sp nn => [0x08, nn.lo, nn.hi]
  | .add_hl_bc => [0x09]
  | .ld_a_atBC => [0x0A]
  | .dec_bc => [0x0B]
  | .inc_c => [0x0C]
  | .dec_c => [0x0D]
  | .ld_c_n n => [0x0E, n]
  | .rrca => [0x0F]
  | .stop z => [0x10, z]
  | .ld_de_nn nn => [0x11, nn.lo, nn.hi]
  | .ld_atDE_a => [0x12]
  | .inc_de => [0x13]
  | .inc_d => [0x14]
  | .dec_d => [0x15]
  | .ld_d_n n => [0x16, n]
  | .rla => [0x17]
  | .jr_e e => [0x18, e]
  | .add_hl_de => [0x19]
  | .ld_a_atDE => [0x1A]
  | .dec_de => [0x1B]
  | .inc_e => [0x1C]
  | .dec_e => [0x1D]
  | .ld_e_n n => [0x1E, n]
  | .rra => [0x1F]
  | .jr_nz_e e => [0x20, e]
  | .ld_hl_nn nn => [0x21, nn.lo, nn.hi]
  | .ld_atHLinc_a => [0x22]
  | .inc_hl => [0x23]
  | .inc_h => [0x24]
  | .dec_h => [0x25]
  | .ld_h_n n => [0x26, n]
  | .daa => [0x27]
  | .jr_z_e e => [0x28, e]
  | .add_hl_hl => [0x29]
  | .ld_a_atHLinc => [0x2A]
  | .dec_hl => [0x2B]
  | .inc_l => [0x2C]
  | .dec_l => [0x2D]
  | .ld_l_n n => [0x2E, n]
  | .cpl => [0x2F]
  | .jr_nc_e e => [0x30, e]
  | .ld_sp_nn nn => [0x31, nn.lo, nn.hi]
  | .ld_atHLdec_a => [0x32]
  | .inc_sp => [0x33]
  | .inc_atHL => [0x34]
  | .dec_atHL => [0x35]
  | .ld_atHL_n n => [0x36, n]
  | .scf => [0x37]
  | .jr_c_e e => [0x38, e]
  | .add_hl_sp => [0x39]
  | .ld_a_atHLdec => [0x3A]
  | .dec_sp => [0x3B]
  | .inc_a => [0x3C]
  | .dec_a => [0x3D]
  | .ld_a_n n => [0x3E, n]
  | .ccf => [0x3F]
  | .ld_b_b => [0x40]
  | .ld_b_c => [0x41]
  | .ld_b_d => [0x42]
  | .ld_b_e => [0x43]
  | .ld_b_h => [0x44]
  | .ld_b_l => [0x45]
  | .ld_b_atHL => [0x46]
  | .ld_b_a => [0x47]
  | .ld_c_b => [0x48]
  | .ld_c_c => [0x49]
  | .ld_c_d => [0x4A]
  | .ld_c_e => [0x4B]
  | .ld_c_h => [0x4C]
  | .ld_c_l => [0x4D]
  | .ld_c_atHL => [0x4E]
  | .ld_c_a => [0x4F]
  | .ld_d_b => [0x50]
  | .ld_d_c => [0x51]
  | .ld_d_d => [0x52]
  | .ld_d_e => [0x53]
  | .ld_d_h => [0x54]
  | .ld_d_l => [0x55]
  | .ld_d_atHL => [0x56]
  | .ld_d_a => [0x57]
  | .ld_e_b => [0x58]
  | .ld_e_c => [0x59]
  | .ld_e_d => [0x5A]
  | .ld_e_e => [0x5B]
  | .ld_e_h => [0x5C]
  | .ld_e_l => [0x5D]
  | .ld_e_atHL => [0x5E]
  | .ld_e_a => [0x5F]
  | .ld_h_b => [0x60]
  | .ld_h_c => [0x61]
  | .ld_h_d => [0x62]
  | .ld_h_e => [0x63]
  | .ld_h_h => [0x64]
  | .ld_h_l => [0x65]
  | .ld_h_atHL => [0x66]
  | .ld_h_a => [0x67]
  | .ld_l_b => [0x68]
  | .ld_l_c => [0x69]
  | .ld_l_d => [0x6A]
  | .ld_l_e => [0x6B]
  | .ld_l_h => [0x6C]
  | .ld_l_l => [0x6D]
  | .ld_l_atHL => [0x6E]
  | .ld_l_a => [0x6F]
  | .ld_atHL_b => [0x70]
  | .ld_atHL_c => [0x71]
  | .ld_atHL_d => [0x72]
  | .ld_atHL_e => [0x73]
  | .ld_atHL_h => [0x74]
  | .ld_atHL_l => [0x75]
  | .halt => [0x76]
  | .ld_atHL_a => [0x77]
  | .ld_a_b => [0x78]
  | .ld_a_c => [0x79]
  | .ld_a_d => [0x7A]
  | .ld_a_e => [0x7B]
  | .ld_a_h => [0x7C]
  | .ld_a_l => [0x7D]
  | .ld_a_atHL => [0x7E]
  | .ld_a_a => [0x7F]
  | .add_a_b => [0x80]
  | .add_a_c => [0x81]
  | .add_a_d => [0x82]
  | .add_a_e => [0x83]
  | .add_a_h => [0x84]
  | .add_a_l => [0x85]
  | .add_a_atHL => [0x86]
  | .add_a_a => [0x87]
  | .adc_a_b => [0x88]
  | .adc_a_c => [0x89]
  | .adc_a_d => [0x8A]
  | .adc_a_e => [0x8B]
  | .adc_a_h => [0x8C]
  | .adc_a_l => [0x8D]
  | .adc_a_atHL => [0x8E]
  | .adc_a_a => [0x8F]
  | .sub_b => [0x90]
  | .sub_c => [0x91]
  | .sub_d => [0x92]
  | .sub_e => [0x93]
  | .sub_h => [0x94]
  | .sub_l => [0x95]
  | .sub_atHL => [0x96]
  | .sub_a => [0x97]
  | .sbc_a_b => [0x98]
  | .sbc_a_c => [0x99]
  | .sbc_a_d => [0x9A]
  | .sbc_a_e => [0x9B]
  | .sbc_a_h => [0x9C]
  | .sbc_a_l => [0x9D]
  | .sbc_a_atHL => [0x9E]
  | .sbc_a_a => [0x9F]
  | .and_b => [0xA0]
  | .and_c => [0xA1]
  | .and_d => [0xA2]
  | .and_e => [0xA3]
  | .and_h => [0xA4]
  | .and_l => [0xA5]
  | .and_atHL => [0xA6]
  | .and_a => [0xA7]
  | .xor_b => [0xA8]
  | .xor_c => [0xA9]
  | .xor_d => [0xAA]
  | .xor_e => [0xAB]
  | .xor_h => [0xAC]
  | .xor_l => [0xAD]
  | .xor_atHL => [0xAE]
  | .xor_a => [0xAF]
  | .or_b => [0xB0]
  | .or_c => [0xB1]
  | .or_d => [0xB2]
  | .or_e => [0xB3]
  | .or_h => [0xB4]
  | .or_l => [0xB5]
  | .or_atHL => [0xB6]
  | .or_a => [0xB7]
  | .cp_b => [0xB8]
  | .cp_c => [0xB9]
  | .cp_d => [0xBA]
  | .cp_e => [0xBB]
  | .cp_h => [0xBC]
  | .cp_l => [0xBD]
  | .cp_atHL => [0xBE]
  | .cp_a => [0xBF]
  | .ret_nz => [0xC0]
  | .pop_bc => [0xC1]
  | .jp_nz_nn nn => [0xC2, nn.lo, nn.hi]
  | .jp_nn nn => [0xC3, nn.lo, nn.hi]
  | .call_nz_nn nn => [0xC4, nn.lo, nn.hi]
  | .push_bc => [0xC5]
  | .add_a_n n => [0xC6, n]
  | .rst_00 => [0xC7]
  | .ret_z => [0xC8]
  | .ret => [0xC9]
  | .jp_z_nn nn => [0xCA, nn.lo, nn.hi]
  | .prefix_cb op2 => [0xCB, op2]
  | .call_z_nn nn => [0xCC, nn.lo, nn.hi]
  | .call_nn nn => [0xCD, nn.lo, nn.hi]
  | .adc_a_n n => [0xCE, n]
  | .rst_08 => [0xCF]
  | .ret_nc => [0xD0]
  | .pop_de => [0xD1]
  | .jp_nc_nn nn => [0xD2, nn.lo, nn.hi]
  | .illegal_d3 => [0xD3]
  | .call_nc_nn nn => [0xD4, nn.lo, nn.hi]
  | .push_de => [0xD5]
  | .sub_n n => [0xD6, n]
  | .rst_10 => [0xD7]
  | .ret_c => [0xD8]
  | .reti => [0xD9]
  | .jp_c_nn nn => [0xDA, nn.lo, nn.hi]
  | .illegal_db => [0xDB]
  | .call_c_nn nn => [0xDC, nn.lo, nn.hi]
  | .illegal_dd => [0xDD]
  | .sbc_a_n n => [0xDE, n]
  | .rst_18 => [0xDF]
  | .ldh_atN_a n => [0xE0, n]
  | .pop_hl => [0xE1]
  | .ld_atC_a => [0xE2]
  | .illegal_e3 => [0xE3]
  | .illegal_e4 => [0xE4]
  | .push_hl => [0xE5]
  | .and_n n => [0xE6, n]
  | .rst_20 => [0xE7]
  | .add_sp_e e => [0xE8, e]
  | .jp_hl => [0xE9]
  | .ld_atNN_a nn => [0xEA, nn.lo, nn.hi]
  | .illegal_eb => [0xEB]
  | .illegal_ec => [0xEC]
  | .illegal_ed => [0xED]
  | .xor_n n => [0xEE, n]
  | .rst_28 => [0xEF]
  | .ldh_a_atN n => [0xF0, n]
  | .pop_af => [0xF1]
  | .ld_a_atC => [0xF2]
  | .di => [0xF3]
  | .illegal_f4 => [0xF4]
  | .push_af => [0xF5]
  | .or_n n => [0xF6, n]
  | .rst_30 => [0xF7]
  | .ld_hl_spe e => [0xF8, e]
  | .ld_sp_hl => [0xF9]
  | .ld_a_atNN nn => [0xFA, nn.lo, nn.hi]
  | .ei => [0xFB]
  | .illegal_fc => [0xFC]
  | .illegal_fd => [0xFD]
  | .cp_n n => [0xFE, n]
  | .rst_38 => [0xFF]
  | .rlc_r r => [0xCB, cbByte 0 0 r.code]
  | .rlc_atHL => [0xCB, cbByte 0 0 6]
  | .rrc_r r => [0xCB, cbByte 0 1 r.code]
  | .rrc_atHL => [0xCB, cbByte 0 1 6]
  | .rl_r r => [0xCB, cbByte 0 2 r.code]
  | .rl_atHL => [0xCB, cbByte 0 2 6]
  | .rr_r r => [0xCB, cbByte 0 3 r.code]
  | .rr_atHL => [0xCB, cbByte 0 3 6]
  | .sla_r r => [0xCB, cbByte 0 4 r.code]
  | .sla_atHL => [0xCB, cbByte 0 4 6]
  | .sra_r r => [0xCB, cbByte 0 5 r.code]
  | .sra_atHL => [0xCB, cbByte 0 5 6]
  | .swap_r r => [0xCB, cbByte 0 6 r.code]
  | .swap_atHL => [0xCB, cbByte 0 6 6]
  | .srl_r r => [0xCB, cbByte 0 7 r.code]
  | .srl_atHL => [0xCB, cbByte 0 7 6]
  | .bit_r n r => [0xCB, cbByte 1 n.val r.code]
  | .bit_atHL n => [0xCB, cbByte 1 n.val 6]
  | .res_r n r => [0xCB, cbByte 2 n.val r.code]
  | .res_atHL n => [0xCB, cbByte 2 n.val 6]
  | .set_r n r => [0xCB, cbByte 3 n.val r.code]
  | .set_atHL n => [0xCB, cbByte 3 n.val 6]

/-- The bytes of an instruction whose bits are `w`, numbered as spec/opcode_table.json numbers them, followed by zero bytes up
to the longest instruction. A base row's number has the opcode in bits 7-0 and later bytes above it. A CB row's number is
`0xCB00 | op2` (R178): 16 bits with the prefix, the FIRST byte in memory, in bits 15-8. -/
def tableWordBytes (nbits w : Nat) : List Byte :=
  let v := w % 2 ^ nbits
  if nbits = 16 ∧ v / 256 = 0xCB then [0xCB, BitVec.ofNat 8 v, 0]
  else [BitVec.ofNat 8 v, BitVec.ofNat 8 (v / 256), BitVec.ofNat 8 (v / 65536)]

/-- The instruction the decoder reads from an instruction whose table bits are `w`, the bits above `nbits` being 0. -/
def decodeTableWord (nbits w : Nat) : Option Instr :=
  match decode (tableWordBytes nbits w) with
  | .ok (i, _) => some i
  | .error _ => none

end Sys2Proof
end

