-- ==== Sys2Proof/Machine/Alu16.lean ====
section
/-! DEFINITION. 16-bit arithmetic: one meaning for each instruction of 43_alu_16bit.md (R330-R333). PC is already past the instruction when a meaning
runs (10_state.md R35). -/

namespace Sys2Proof.Machine

/-- `ADD HL,rr`: Z is unchanged (R330). -/
def State.addToHl (s : State) (v : Word) : State :=
  let o := addWord s.hl v
  (s.setHl o.res).setFlags s.regs.fz false o.h o.c

/-- `ADD SP,e` (R333). -/
def State.addToSp (s : State) (e : Byte) : State :=
  let o := addSigned s.regs.sp e
  (s.setSp o.res).setFlags false false o.h o.c

/-- `INC BC` (R331). -/
def exec_inc_bc (s : State) : Result := .next (s.setPair .bc (s.pair .bc + 1))

/-- `ADD HL,BC` (R330). -/
def exec_add_hl_bc (s : State) : Result := .next (s.addToHl (s.pair .bc))

/-- `DEC BC` (R332). -/
def exec_dec_bc (s : State) : Result := .next (s.setPair .bc (s.pair .bc - 1))

/-- `INC DE` (R331). -/
def exec_inc_de (s : State) : Result := .next (s.setPair .de (s.pair .de + 1))

/-- `ADD HL,DE` (R330). -/
def exec_add_hl_de (s : State) : Result := .next (s.addToHl (s.pair .de))

/-- `DEC DE` (R332). -/
def exec_dec_de (s : State) : Result := .next (s.setPair .de (s.pair .de - 1))

/-- `INC HL` (R331). -/
def exec_inc_hl (s : State) : Result := .next (s.setPair .hl (s.pair .hl + 1))

/-- `ADD HL,HL` (R330). -/
def exec_add_hl_hl (s : State) : Result := .next (s.addToHl (s.pair .hl))

/-- `DEC HL` (R332). -/
def exec_dec_hl (s : State) : Result := .next (s.setPair .hl (s.pair .hl - 1))

/-- `INC SP` (R331). -/
def exec_inc_sp (s : State) : Result := .next (s.setPair .sp (s.pair .sp + 1))

/-- `ADD HL,SP` (R330). -/
def exec_add_hl_sp (s : State) : Result := .next (s.addToHl (s.pair .sp))

/-- `DEC SP` (R332). -/
def exec_dec_sp (s : State) : Result := .next (s.setPair .sp (s.pair .sp - 1))

/-- `ADD SP,e` (R333). -/
def exec_add_sp_e (e : Byte) (s : State) : Result := .next (s.addToSp e)

end Sys2Proof.Machine
end

