-- ==== Sys2Proof/Machine/Alu8.lean ====
section
/-! DEFINITION. 8-bit arithmetic and logic: one meaning for each instruction of 42_alu_8bit.md (R280-R312). PC is already past the instruction when a meaning
runs (10_state.md R35). -/

namespace Sys2Proof.Machine

/-- `alu[y] A,v`: every operation but CP stores its result in A (R281-R304). -/
def State.aluA (s : State) (op : AluOp) (v : Byte) : State :=
  let o := alu8 op (s.reg .a) v s.regs.fc
  match op with
  | .cp => s.keepFlags o
  | .add | .adc | .sub | .sbc | .and | .xor | .or => s.setAFlags o

/-- `INC r` (R305). -/
def State.incReg (s : State) (r : Reg8) : State :=
  let o := inc8 (s.reg r) s.regs.fc
  (s.setReg r o.res).keepFlags o

/-- `DEC r` (R307). -/
def State.decReg (s : State) (r : Reg8) : State :=
  let o := dec8 (s.reg r) s.regs.fc
  (s.setReg r o.res).keepFlags o

/-- `INC (HL)`: the read and the write are in one step (R306, 20_memory.md R109). -/
def State.incAtHl (s : State) : State :=
  let o := inc8 (s.busRead s.hl) s.regs.fc
  (s.busWrite s.hl o.res).keepFlags o

/-- `DEC (HL)` (R308). -/
def State.decAtHl (s : State) : State :=
  let o := dec8 (s.busRead s.hl) s.regs.fc
  (s.busWrite s.hl o.res).keepFlags o

/-- `INC B` (R305). -/
def exec_inc_b (s : State) : Result := .next (s.incReg .b)

/-- `DEC B` (R307). -/
def exec_dec_b (s : State) : Result := .next (s.decReg .b)

/-- `INC C` (R305). -/
def exec_inc_c (s : State) : Result := .next (s.incReg .c)

/-- `DEC C` (R307). -/
def exec_dec_c (s : State) : Result := .next (s.decReg .c)

/-- `INC D` (R305). -/
def exec_inc_d (s : State) : Result := .next (s.incReg .d)

/-- `DEC D` (R307). -/
def exec_dec_d (s : State) : Result := .next (s.decReg .d)

/-- `INC E` (R305). -/
def exec_inc_e (s : State) : Result := .next (s.incReg .e)

/-- `DEC E` (R307). -/
def exec_dec_e (s : State) : Result := .next (s.decReg .e)

/-- `INC H` (R305). -/
def exec_inc_h (s : State) : Result := .next (s.incReg .h)

/-- `DEC H` (R307). -/
def exec_dec_h (s : State) : Result := .next (s.decReg .h)

/-- `DAA` (R309). -/
def exec_daa (s : State) : Result := .next (s.setAFlags (daa8 (s.reg .a) s.regs.fn s.regs.fh s.regs.fc))

/-- `INC L` (R305). -/
def exec_inc_l (s : State) : Result := .next (s.incReg .l)

/-- `DEC L` (R307). -/
def exec_dec_l (s : State) : Result := .next (s.decReg .l)

/-- `CPL` (R310). -/
def exec_cpl (s : State) : Result := .next ((s.setReg .a (s.reg .a ^^^ 0xFF)).setFlags s.regs.fz true true s.regs.fc)

/-- `INC (HL)` (R306). -/
def exec_inc_atHL (s : State) : Result := .next s.incAtHl

/-- `DEC (HL)` (R308). -/
def exec_dec_atHL (s : State) : Result := .next s.decAtHl

/-- `SCF` (R311). -/
def exec_scf (s : State) : Result := .next (s.setFlags s.regs.fz false false true)

/-- `INC A` (R305). -/
def exec_inc_a (s : State) : Result := .next (s.incReg .a)

/-- `DEC A` (R307). -/
def exec_dec_a (s : State) : Result := .next (s.decReg .a)

/-- `CCF` (R312). -/
def exec_ccf (s : State) : Result := .next (s.setFlags s.regs.fz false false (!s.regs.fc))

/-- `ADD A,B` (R281). -/
def exec_add_a_b (s : State) : Result := .next (s.aluA .add (s.reg .b))

/-- `ADD A,C` (R281). -/
def exec_add_a_c (s : State) : Result := .next (s.aluA .add (s.reg .c))

/-- `ADD A,D` (R281). -/
def exec_add_a_d (s : State) : Result := .next (s.aluA .add (s.reg .d))

/-- `ADD A,E` (R281). -/
def exec_add_a_e (s : State) : Result := .next (s.aluA .add (s.reg .e))

/-- `ADD A,H` (R281). -/
def exec_add_a_h (s : State) : Result := .next (s.aluA .add (s.reg .h))

/-- `ADD A,L` (R281). -/
def exec_add_a_l (s : State) : Result := .next (s.aluA .add (s.reg .l))

/-- `ADD A,(HL)` (R282). -/
def exec_add_a_atHL (s : State) : Result := .next (s.aluA .add (s.busRead s.hl))

/-- `ADD A,A` (R281). -/
def exec_add_a_a (s : State) : Result := .next (s.aluA .add (s.reg .a))

/-- `ADC A,B` (R284). -/
def exec_adc_a_b (s : State) : Result := .next (s.aluA .adc (s.reg .b))

/-- `ADC A,C` (R284). -/
def exec_adc_a_c (s : State) : Result := .next (s.aluA .adc (s.reg .c))

/-- `ADC A,D` (R284). -/
def exec_adc_a_d (s : State) : Result := .next (s.aluA .adc (s.reg .d))

/-- `ADC A,E` (R284). -/
def exec_adc_a_e (s : State) : Result := .next (s.aluA .adc (s.reg .e))

/-- `ADC A,H` (R284). -/
def exec_adc_a_h (s : State) : Result := .next (s.aluA .adc (s.reg .h))

/-- `ADC A,L` (R284). -/
def exec_adc_a_l (s : State) : Result := .next (s.aluA .adc (s.reg .l))

/-- `ADC A,(HL)` (R285). -/
def exec_adc_a_atHL (s : State) : Result := .next (s.aluA .adc (s.busRead s.hl))

/-- `ADC A,A` (R284). -/
def exec_adc_a_a (s : State) : Result := .next (s.aluA .adc (s.reg .a))

/-- `SUB B` (R287). -/
def exec_sub_b (s : State) : Result := .next (s.aluA .sub (s.reg .b))

/-- `SUB C` (R287). -/
def exec_sub_c (s : State) : Result := .next (s.aluA .sub (s.reg .c))

/-- `SUB D` (R287). -/
def exec_sub_d (s : State) : Result := .next (s.aluA .sub (s.reg .d))

/-- `SUB E` (R287). -/
def exec_sub_e (s : State) : Result := .next (s.aluA .sub (s.reg .e))

/-- `SUB H` (R287). -/
def exec_sub_h (s : State) : Result := .next (s.aluA .sub (s.reg .h))

/-- `SUB L` (R287). -/
def exec_sub_l (s : State) : Result := .next (s.aluA .sub (s.reg .l))

/-- `SUB (HL)` (R288). -/
def exec_sub_atHL (s : State) : Result := .next (s.aluA .sub (s.busRead s.hl))

/-- `SUB A` (R287). -/
def exec_sub_a (s : State) : Result := .next (s.aluA .sub (s.reg .a))

/-- `SBC A,B` (R290). -/
def exec_sbc_a_b (s : State) : Result := .next (s.aluA .sbc (s.reg .b))

/-- `SBC A,C` (R290). -/
def exec_sbc_a_c (s : State) : Result := .next (s.aluA .sbc (s.reg .c))

/-- `SBC A,D` (R290). -/
def exec_sbc_a_d (s : State) : Result := .next (s.aluA .sbc (s.reg .d))

/-- `SBC A,E` (R290). -/
def exec_sbc_a_e (s : State) : Result := .next (s.aluA .sbc (s.reg .e))

/-- `SBC A,H` (R290). -/
def exec_sbc_a_h (s : State) : Result := .next (s.aluA .sbc (s.reg .h))

/-- `SBC A,L` (R290). -/
def exec_sbc_a_l (s : State) : Result := .next (s.aluA .sbc (s.reg .l))

/-- `SBC A,(HL)` (R291). -/
def exec_sbc_a_atHL (s : State) : Result := .next (s.aluA .sbc (s.busRead s.hl))

/-- `SBC A,A` (R290). -/
def exec_sbc_a_a (s : State) : Result := .next (s.aluA .sbc (s.reg .a))

/-- `AND B` (R293). -/
def exec_and_b (s : State) : Result := .next (s.aluA .and (s.reg .b))

/-- `AND C` (R293). -/
def exec_and_c (s : State) : Result := .next (s.aluA .and (s.reg .c))

/-- `AND D` (R293). -/
def exec_and_d (s : State) : Result := .next (s.aluA .and (s.reg .d))

/-- `AND E` (R293). -/
def exec_and_e (s : State) : Result := .next (s.aluA .and (s.reg .e))

/-- `AND H` (R293). -/
def exec_and_h (s : State) : Result := .next (s.aluA .and (s.reg .h))

/-- `AND L` (R293). -/
def exec_and_l (s : State) : Result := .next (s.aluA .and (s.reg .l))

/-- `AND (HL)` (R294). -/
def exec_and_atHL (s : State) : Result := .next (s.aluA .and (s.busRead s.hl))

/-- `AND A` (R293). -/
def exec_and_a (s : State) : Result := .next (s.aluA .and (s.reg .a))

/-- `XOR B` (R296). -/
def exec_xor_b (s : State) : Result := .next (s.aluA .xor (s.reg .b))

/-- `XOR C` (R296). -/
def exec_xor_c (s : State) : Result := .next (s.aluA .xor (s.reg .c))

/-- `XOR D` (R296). -/
def exec_xor_d (s : State) : Result := .next (s.aluA .xor (s.reg .d))

/-- `XOR E` (R296). -/
def exec_xor_e (s : State) : Result := .next (s.aluA .xor (s.reg .e))

/-- `XOR H` (R296). -/
def exec_xor_h (s : State) : Result := .next (s.aluA .xor (s.reg .h))

/-- `XOR L` (R296). -/
def exec_xor_l (s : State) : Result := .next (s.aluA .xor (s.reg .l))

/-- `XOR (HL)` (R297). -/
def exec_xor_atHL (s : State) : Result := .next (s.aluA .xor (s.busRead s.hl))

/-- `XOR A` (R296). -/
def exec_xor_a (s : State) : Result := .next (s.aluA .xor (s.reg .a))

/-- `OR B` (R299). -/
def exec_or_b (s : State) : Result := .next (s.aluA .or (s.reg .b))

/-- `OR C` (R299). -/
def exec_or_c (s : State) : Result := .next (s.aluA .or (s.reg .c))

/-- `OR D` (R299). -/
def exec_or_d (s : State) : Result := .next (s.aluA .or (s.reg .d))

/-- `OR E` (R299). -/
def exec_or_e (s : State) : Result := .next (s.aluA .or (s.reg .e))

/-- `OR H` (R299). -/
def exec_or_h (s : State) : Result := .next (s.aluA .or (s.reg .h))

/-- `OR L` (R299). -/
def exec_or_l (s : State) : Result := .next (s.aluA .or (s.reg .l))

/-- `OR (HL)` (R300). -/
def exec_or_atHL (s : State) : Result := .next (s.aluA .or (s.busRead s.hl))

/-- `OR A` (R299). -/
def exec_or_a (s : State) : Result := .next (s.aluA .or (s.reg .a))

/-- `CP B` (R302). -/
def exec_cp_b (s : State) : Result := .next (s.aluA .cp (s.reg .b))

/-- `CP C` (R302). -/
def exec_cp_c (s : State) : Result := .next (s.aluA .cp (s.reg .c))

/-- `CP D` (R302). -/
def exec_cp_d (s : State) : Result := .next (s.aluA .cp (s.reg .d))

/-- `CP E` (R302). -/
def exec_cp_e (s : State) : Result := .next (s.aluA .cp (s.reg .e))

/-- `CP H` (R302). -/
def exec_cp_h (s : State) : Result := .next (s.aluA .cp (s.reg .h))

/-- `CP L` (R302). -/
def exec_cp_l (s : State) : Result := .next (s.aluA .cp (s.reg .l))

/-- `CP (HL)` (R303). -/
def exec_cp_atHL (s : State) : Result := .next (s.aluA .cp (s.busRead s.hl))

/-- `CP A` (R302). -/
def exec_cp_a (s : State) : Result := .next (s.aluA .cp (s.reg .a))

/-- `ADD A,n` (R283). -/
def exec_add_a_n (n : Byte) (s : State) : Result := .next (s.aluA .add n)

/-- `ADC A,n` (R286). -/
def exec_adc_a_n (n : Byte) (s : State) : Result := .next (s.aluA .adc n)

/-- `SUB n` (R289). -/
def exec_sub_n (n : Byte) (s : State) : Result := .next (s.aluA .sub n)

/-- `SBC A,n` (R292). -/
def exec_sbc_a_n (n : Byte) (s : State) : Result := .next (s.aluA .sbc n)

/-- `AND n` (R295). -/
def exec_and_n (n : Byte) (s : State) : Result := .next (s.aluA .and n)

/-- `XOR n` (R298). -/
def exec_xor_n (n : Byte) (s : State) : Result := .next (s.aluA .xor n)

/-- `OR n` (R301). -/
def exec_or_n (n : Byte) (s : State) : Result := .next (s.aluA .or n)

/-- `CP n` (R304). -/
def exec_cp_n (n : Byte) (s : State) : Result := .next (s.aluA .cp n)

end Sys2Proof.Machine
end

