-- ==== Sys2Proof/Machine/Control.lean ====
section
/-! DEFINITION. Control transfer: one meaning for each instruction of 45_control_flow.md (R400-R415). PC is already past the instruction when a meaning
runs (10_state.md R35). -/

namespace Sys2Proof.Machine

/-- `if Cond(cc): t`, else the state as it is (R402, R405, R407, R409). -/
def State.onlyIf (s : State) (b : Bool) (t : State) : State := if b then t else s

/-- `pc <- pc + sext_16(e)`; PC is already past the instruction (R404). -/
def State.jumpRel (s : State) (e : Byte) : State := s.setPc (s.regs.pc + sext16 e)

/-- `Push16(pc); pc <- target` (R406, R415). -/
def State.callTo (s : State) (target : Word) : State := (s.push16 s.regs.pc).setPc target

/-- `pc <- Pop16()` (R408). -/
def State.returnTo (s : State) : State :=
  let p := s.pop16
  p.2.setPc p.1

/-- `JR e` (R404). -/
def exec_jr_e (e : Byte) (s : State) : Result := .next (s.jumpRel e)

/-- `JR NZ,e` (R405). -/
def exec_jr_nz_e (e : Byte) (s : State) : Result := .next (s.onlyIf (s.cond .nz) (s.jumpRel e))

/-- `JR Z,e` (R405). -/
def exec_jr_z_e (e : Byte) (s : State) : Result := .next (s.onlyIf (s.cond .z) (s.jumpRel e))

/-- `JR NC,e` (R405). -/
def exec_jr_nc_e (e : Byte) (s : State) : Result := .next (s.onlyIf (s.cond .nc) (s.jumpRel e))

/-- `JR C,e` (R405). -/
def exec_jr_c_e (e : Byte) (s : State) : Result := .next (s.onlyIf (s.cond .c) (s.jumpRel e))

/-- `RET NZ` (R409). -/
def exec_ret_nz (s : State) : Result := .next (s.onlyIf (s.cond .nz) s.returnTo)

/-- `JP NZ,nn` (R402). -/
def exec_jp_nz_nn (nn : Word) (s : State) : Result := .next (s.onlyIf (s.cond .nz) (s.setPc nn))

/-- `JP nn` (R401). -/
def exec_jp_nn (nn : Word) (s : State) : Result := .next (s.setPc nn)

/-- `CALL NZ,nn` (R407). -/
def exec_call_nz_nn (nn : Word) (s : State) : Result := .next (s.onlyIf (s.cond .nz) (s.callTo nn))

/-- `RST 00H` (R415). -/
def exec_rst_00 (s : State) : Result := .next (s.callTo (zext16 0x00))

/-- `RET Z` (R409). -/
def exec_ret_z (s : State) : Result := .next (s.onlyIf (s.cond .z) s.returnTo)

/-- `RET` (R408). -/
def exec_ret (s : State) : Result := .next s.returnTo

/-- `JP Z,nn` (R402). -/
def exec_jp_z_nn (nn : Word) (s : State) : Result := .next (s.onlyIf (s.cond .z) (s.setPc nn))

/-- `CALL Z,nn` (R407). -/
def exec_call_z_nn (nn : Word) (s : State) : Result := .next (s.onlyIf (s.cond .z) (s.callTo nn))

/-- `CALL nn` (R406). -/
def exec_call_nn (nn : Word) (s : State) : Result := .next (s.callTo nn)

/-- `RST 08H` (R415). -/
def exec_rst_08 (s : State) : Result := .next (s.callTo (zext16 0x08))

/-- `RET NC` (R409). -/
def exec_ret_nc (s : State) : Result := .next (s.onlyIf (s.cond .nc) s.returnTo)

/-- `JP NC,nn` (R402). -/
def exec_jp_nc_nn (nn : Word) (s : State) : Result := .next (s.onlyIf (s.cond .nc) (s.setPc nn))

/-- `CALL NC,nn` (R407). -/
def exec_call_nc_nn (nn : Word) (s : State) : Result := .next (s.onlyIf (s.cond .nc) (s.callTo nn))

/-- `RST 10H` (R415). -/
def exec_rst_10 (s : State) : Result := .next (s.callTo (zext16 0x10))

/-- `RET C` (R409). -/
def exec_ret_c (s : State) : Result := .next (s.onlyIf (s.cond .c) s.returnTo)

/-- `RETI` (R412). -/
def exec_reti (s : State) : Result := .next s.returnFromInterrupt

/-- `JP C,nn` (R402). -/
def exec_jp_c_nn (nn : Word) (s : State) : Result := .next (s.onlyIf (s.cond .c) (s.setPc nn))

/-- `CALL C,nn` (R407). -/
def exec_call_c_nn (nn : Word) (s : State) : Result := .next (s.onlyIf (s.cond .c) (s.callTo nn))

/-- `RST 18H` (R415). -/
def exec_rst_18 (s : State) : Result := .next (s.callTo (zext16 0x18))

/-- `RST 20H` (R415). -/
def exec_rst_20 (s : State) : Result := .next (s.callTo (zext16 0x20))

/-- `JP HL` (R403). -/
def exec_jp_hl (s : State) : Result := .next (s.setPc s.hl)

/-- `RST 28H` (R415). -/
def exec_rst_28 (s : State) : Result := .next (s.callTo (zext16 0x28))

/-- `RST 30H` (R415). -/
def exec_rst_30 (s : State) : Result := .next (s.callTo (zext16 0x30))

/-- `RST 38H` (R415). -/
def exec_rst_38 (s : State) : Result := .next (s.callTo (zext16 0x38))

end Sys2Proof.Machine
end

