-- ==== Sys2Proof/Machine/Loads16.lean ====
section
/-! DEFINITION. The 16-bit loads and the stack: one meaning for each instruction of 41_loads_16bit.md (R250-R256). PC is already past the instruction when a meaning
runs (10_state.md R35). -/

namespace Sys2Proof.Machine

/-- SP plus a signed byte into HL, with Z and N cleared (R253). -/
def State.loadHlSp (s : State) (e : Byte) : State :=
  let o := addSigned s.regs.sp e
  (s.setHl o.res).setFlags false false o.h o.c

/-- Pop a word into a register pair (R255, R256). -/
def State.popTo (s : State) (r : StackReg) : State :=
  let p := s.pop16
  p.2.setStackReg r p.1

/-- `LD BC,nn` (R250). -/
def exec_ld_bc_nn (nn : Word) (s : State) : Result := .next (s.setPair .bc nn)

/-- `LD (nn),SP` (R251). -/
def exec_ld_atNN_sp (nn : Word) (s : State) : Result := .next (s.busWrite16 nn s.regs.sp)

/-- `LD DE,nn` (R250). -/
def exec_ld_de_nn (nn : Word) (s : State) : Result := .next (s.setPair .de nn)

/-- `LD HL,nn` (R250). -/
def exec_ld_hl_nn (nn : Word) (s : State) : Result := .next (s.setPair .hl nn)

/-- `LD SP,nn` (R250). -/
def exec_ld_sp_nn (nn : Word) (s : State) : Result := .next (s.setPair .sp nn)

/-- `POP BC` (R255). -/
def exec_pop_bc (s : State) : Result := .next (s.popTo .bc)

/-- `PUSH BC` (R254). -/
def exec_push_bc (s : State) : Result := .next (s.push16 (s.stackReg .bc))

/-- `POP DE` (R255). -/
def exec_pop_de (s : State) : Result := .next (s.popTo .de)

/-- `PUSH DE` (R254). -/
def exec_push_de (s : State) : Result := .next (s.push16 (s.stackReg .de))

/-- `POP HL` (R255). -/
def exec_pop_hl (s : State) : Result := .next (s.popTo .hl)

/-- `PUSH HL` (R254). -/
def exec_push_hl (s : State) : Result := .next (s.push16 (s.stackReg .hl))

/-- `POP AF` (R256). -/
def exec_pop_af (s : State) : Result := .next (s.popTo .af)

/-- `PUSH AF` (R254). -/
def exec_push_af (s : State) : Result := .next (s.push16 (s.stackReg .af))

/-- `LD HL,SP+e` (R253). -/
def exec_ld_hl_spe (e : Byte) (s : State) : Result := .next (s.loadHlSp e)

/-- `LD SP,HL` (R252). -/
def exec_ld_sp_hl (s : State) : Result := .next (s.setSp s.hl)

end Sys2Proof.Machine
end

