-- ==== Sys2Proof/Machine/Loads8.lean ====
section
/-! DEFINITION. The 8-bit loads: one meaning for each instruction of 40_loads_8bit.md (R200-R219). PC is already past the instruction when a meaning
runs (10_state.md R35). -/

namespace Sys2Proof.Machine

/-- `LD (BC),A` (R207). -/
def exec_ld_atBC_a (s : State) : Result := .next (s.busWrite s.bc (s.reg .a))

/-- `LD B,n` (R201). -/
def exec_ld_b_n (n : Byte) (s : State) : Result := .next (s.setReg .b n)

/-- `LD A,(BC)` (R205). -/
def exec_ld_a_atBC (s : State) : Result := .next (s.setReg .a (s.busRead s.bc))

/-- `LD C,n` (R201). -/
def exec_ld_c_n (n : Byte) (s : State) : Result := .next (s.setReg .c n)

/-- `LD (DE),A` (R208). -/
def exec_ld_atDE_a (s : State) : Result := .next (s.busWrite s.de (s.reg .a))

/-- `LD D,n` (R201). -/
def exec_ld_d_n (n : Byte) (s : State) : Result := .next (s.setReg .d n)

/-- `LD A,(DE)` (R206). -/
def exec_ld_a_atDE (s : State) : Result := .next (s.setReg .a (s.busRead s.de))

/-- `LD E,n` (R201). -/
def exec_ld_e_n (n : Byte) (s : State) : Result := .next (s.setReg .e n)

/-- `LD (HL+),A` (R213). -/
def exec_ld_atHLinc_a (s : State) : Result := .next ((s.busWrite s.hl (s.reg .a)).setHl (s.hl + 1))

/-- `LD H,n` (R201). -/
def exec_ld_h_n (n : Byte) (s : State) : Result := .next (s.setReg .h n)

/-- `LD A,(HL+)` (R211). -/
def exec_ld_a_atHLinc (s : State) : Result := .next ((s.setReg .a (s.busRead s.hl)).setHl (s.hl + 1))

/-- `LD L,n` (R201). -/
def exec_ld_l_n (n : Byte) (s : State) : Result := .next (s.setReg .l n)

/-- `LD (HL-),A` (R214). -/
def exec_ld_atHLdec_a (s : State) : Result := .next ((s.busWrite s.hl (s.reg .a)).setHl (s.hl - 1))

/-- `LD (HL),n` (R204). -/
def exec_ld_atHL_n (n : Byte) (s : State) : Result := .next (s.busWrite s.hl n)

/-- `LD A,(HL-)` (R212). -/
def exec_ld_a_atHLdec (s : State) : Result := .next ((s.setReg .a (s.busRead s.hl)).setHl (s.hl - 1))

/-- `LD A,n` (R201). -/
def exec_ld_a_n (n : Byte) (s : State) : Result := .next (s.setReg .a n)

/-- `LD B,B` (R200). -/
def exec_ld_b_b (s : State) : Result := .next (s.setReg .b (s.reg .b))

/-- `LD B,C` (R200). -/
def exec_ld_b_c (s : State) : Result := .next (s.setReg .b (s.reg .c))

/-- `LD B,D` (R200). -/
def exec_ld_b_d (s : State) : Result := .next (s.setReg .b (s.reg .d))

/-- `LD B,E` (R200). -/
def exec_ld_b_e (s : State) : Result := .next (s.setReg .b (s.reg .e))

/-- `LD B,H` (R200). -/
def exec_ld_b_h (s : State) : Result := .next (s.setReg .b (s.reg .h))

/-- `LD B,L` (R200). -/
def exec_ld_b_l (s : State) : Result := .next (s.setReg .b (s.reg .l))

/-- `LD B,(HL)` (R202). -/
def exec_ld_b_atHL (s : State) : Result := .next (s.setReg .b (s.busRead s.hl))

/-- `LD B,A` (R200). -/
def exec_ld_b_a (s : State) : Result := .next (s.setReg .b (s.reg .a))

/-- `LD C,B` (R200). -/
def exec_ld_c_b (s : State) : Result := .next (s.setReg .c (s.reg .b))

/-- `LD C,C` (R200). -/
def exec_ld_c_c (s : State) : Result := .next (s.setReg .c (s.reg .c))

/-- `LD C,D` (R200). -/
def exec_ld_c_d (s : State) : Result := .next (s.setReg .c (s.reg .d))

/-- `LD C,E` (R200). -/
def exec_ld_c_e (s : State) : Result := .next (s.setReg .c (s.reg .e))

/-- `LD C,H` (R200). -/
def exec_ld_c_h (s : State) : Result := .next (s.setReg .c (s.reg .h))

/-- `LD C,L` (R200). -/
def exec_ld_c_l (s : State) : Result := .next (s.setReg .c (s.reg .l))

/-- `LD C,(HL)` (R202). -/
def exec_ld_c_atHL (s : State) : Result := .next (s.setReg .c (s.busRead s.hl))

/-- `LD C,A` (R200). -/
def exec_ld_c_a (s : State) : Result := .next (s.setReg .c (s.reg .a))

/-- `LD D,B` (R200). -/
def exec_ld_d_b (s : State) : Result := .next (s.setReg .d (s.reg .b))

/-- `LD D,C` (R200). -/
def exec_ld_d_c (s : State) : Result := .next (s.setReg .d (s.reg .c))

/-- `LD D,D` (R200). -/
def exec_ld_d_d (s : State) : Result := .next (s.setReg .d (s.reg .d))

/-- `LD D,E` (R200). -/
def exec_ld_d_e (s : State) : Result := .next (s.setReg .d (s.reg .e))

/-- `LD D,H` (R200). -/
def exec_ld_d_h (s : State) : Result := .next (s.setReg .d (s.reg .h))

/-- `LD D,L` (R200). -/
def exec_ld_d_l (s : State) : Result := .next (s.setReg .d (s.reg .l))

/-- `LD D,(HL)` (R202). -/
def exec_ld_d_atHL (s : State) : Result := .next (s.setReg .d (s.busRead s.hl))

/-- `LD D,A` (R200). -/
def exec_ld_d_a (s : State) : Result := .next (s.setReg .d (s.reg .a))

/-- `LD E,B` (R200). -/
def exec_ld_e_b (s : State) : Result := .next (s.setReg .e (s.reg .b))

/-- `LD E,C` (R200). -/
def exec_ld_e_c (s : State) : Result := .next (s.setReg .e (s.reg .c))

/-- `LD E,D` (R200). -/
def exec_ld_e_d (s : State) : Result := .next (s.setReg .e (s.reg .d))

/-- `LD E,E` (R200). -/
def exec_ld_e_e (s : State) : Result := .next (s.setReg .e (s.reg .e))

/-- `LD E,H` (R200). -/
def exec_ld_e_h (s : State) : Result := .next (s.setReg .e (s.reg .h))

/-- `LD E,L` (R200). -/
def exec_ld_e_l (s : State) : Result := .next (s.setReg .e (s.reg .l))

/-- `LD E,(HL)` (R202). -/
def exec_ld_e_atHL (s : State) : Result := .next (s.setReg .e (s.busRead s.hl))

/-- `LD E,A` (R200). -/
def exec_ld_e_a (s : State) : Result := .next (s.setReg .e (s.reg .a))

/-- `LD H,B` (R200). -/
def exec_ld_h_b (s : State) : Result := .next (s.setReg .h (s.reg .b))

/-- `LD H,C` (R200). -/
def exec_ld_h_c (s : State) : Result := .next (s.setReg .h (s.reg .c))

/-- `LD H,D` (R200). -/
def exec_ld_h_d (s : State) : Result := .next (s.setReg .h (s.reg .d))

/-- `LD H,E` (R200). -/
def exec_ld_h_e (s : State) : Result := .next (s.setReg .h (s.reg .e))

/-- `LD H,H` (R200). -/
def exec_ld_h_h (s : State) : Result := .next (s.setReg .h (s.reg .h))

/-- `LD H,L` (R200). -/
def exec_ld_h_l (s : State) : Result := .next (s.setReg .h (s.reg .l))

/-- `LD H,(HL)` (R202). -/
def exec_ld_h_atHL (s : State) : Result := .next (s.setReg .h (s.busRead s.hl))

/-- `LD H,A` (R200). -/
def exec_ld_h_a (s : State) : Result := .next (s.setReg .h (s.reg .a))

/-- `LD L,B` (R200). -/
def exec_ld_l_b (s : State) : Result := .next (s.setReg .l (s.reg .b))

/-- `LD L,C` (R200). -/
def exec_ld_l_c (s : State) : Result := .next (s.setReg .l (s.reg .c))

/-- `LD L,D` (R200). -/
def exec_ld_l_d (s : State) : Result := .next (s.setReg .l (s.reg .d))

/-- `LD L,E` (R200). -/
def exec_ld_l_e (s : State) : Result := .next (s.setReg .l (s.reg .e))

/-- `LD L,H` (R200). -/
def exec_ld_l_h (s : State) : Result := .next (s.setReg .l (s.reg .h))

/-- `LD L,L` (R200). -/
def exec_ld_l_l (s : State) : Result := .next (s.setReg .l (s.reg .l))

/-- `LD L,(HL)` (R202). -/
def exec_ld_l_atHL (s : State) : Result := .next (s.setReg .l (s.busRead s.hl))

/-- `LD L,A` (R200). -/
def exec_ld_l_a (s : State) : Result := .next (s.setReg .l (s.reg .a))

/-- `LD (HL),B` (R203). -/
def exec_ld_atHL_b (s : State) : Result := .next (s.busWrite s.hl (s.reg .b))

/-- `LD (HL),C` (R203). -/
def exec_ld_atHL_c (s : State) : Result := .next (s.busWrite s.hl (s.reg .c))

/-- `LD (HL),D` (R203). -/
def exec_ld_atHL_d (s : State) : Result := .next (s.busWrite s.hl (s.reg .d))

/-- `LD (HL),E` (R203). -/
def exec_ld_atHL_e (s : State) : Result := .next (s.busWrite s.hl (s.reg .e))

/-- `LD (HL),H` (R203). -/
def exec_ld_atHL_h (s : State) : Result := .next (s.busWrite s.hl (s.reg .h))

/-- `LD (HL),L` (R203). -/
def exec_ld_atHL_l (s : State) : Result := .next (s.busWrite s.hl (s.reg .l))

/-- `LD (HL),A` (R203). -/
def exec_ld_atHL_a (s : State) : Result := .next (s.busWrite s.hl (s.reg .a))

/-- `LD A,B` (R200). -/
def exec_ld_a_b (s : State) : Result := .next (s.setReg .a (s.reg .b))

/-- `LD A,C` (R200). -/
def exec_ld_a_c (s : State) : Result := .next (s.setReg .a (s.reg .c))

/-- `LD A,D` (R200). -/
def exec_ld_a_d (s : State) : Result := .next (s.setReg .a (s.reg .d))

/-- `LD A,E` (R200). -/
def exec_ld_a_e (s : State) : Result := .next (s.setReg .a (s.reg .e))

/-- `LD A,H` (R200). -/
def exec_ld_a_h (s : State) : Result := .next (s.setReg .a (s.reg .h))

/-- `LD A,L` (R200). -/
def exec_ld_a_l (s : State) : Result := .next (s.setReg .a (s.reg .l))

/-- `LD A,(HL)` (R202). -/
def exec_ld_a_atHL (s : State) : Result := .next (s.setReg .a (s.busRead s.hl))

/-- `LD A,A` (R200). -/
def exec_ld_a_a (s : State) : Result := .next (s.setReg .a (s.reg .a))

/-- `LDH (n),A` (R219). -/
def exec_ldh_atN_a (n : Byte) (s : State) : Result := .next (s.busWrite (highPage n) (s.reg .a))

/-- `LD (C),A` (R217). -/
def exec_ld_atC_a (s : State) : Result := .next (s.busWrite (highPage (s.reg .c)) (s.reg .a))

/-- `LD (nn),A` (R210). -/
def exec_ld_atNN_a (nn : Word) (s : State) : Result := .next (s.busWrite nn (s.reg .a))

/-- `LDH A,(n)` (R218). -/
def exec_ldh_a_atN (n : Byte) (s : State) : Result := .next (s.setReg .a (s.busRead (highPage n)))

/-- `LD A,(C)` (R216). -/
def exec_ld_a_atC (s : State) : Result := .next (s.setReg .a (s.busRead (highPage (s.reg .c))))

/-- `LD A,(nn)` (R209). -/
def exec_ld_a_atNN (nn : Word) (s : State) : Result := .next (s.setReg .a (s.busRead nn))

end Sys2Proof.Machine
end

