-- ==== Sys2Proof/Machine/RotShift.lean ====
section
/-! DEFINITION. Rotates, shifts and bit instructions: one meaning for each instruction of 44_rotate_shift_bit.md (R350-R376). PC is already past the instruction when a meaning
runs (10_state.md R35). -/

namespace Sys2Proof.Machine

/-- The accumulator rotates: Z is always cleared (R351-R354). -/
def State.rotA (s : State) (k : RotOp) : State :=
  let o := rotOut k (s.reg .a) s.regs.fc
  (s.setReg .a o.res).setFlags false false false o.c

/-- `rot[y] r` (R355-R369). -/
def State.rotReg (s : State) (k : RotOp) (r : Reg8) : State :=
  let o := rotOut k (s.reg r) s.regs.fc
  (s.setReg r o.res).keepFlags o

/-- `rot[y] (HL)` (R356-R370). -/
def State.rotAtHl (s : State) (k : RotOp) : State :=
  let o := rotOut k (s.busRead s.hl) s.regs.fc
  (s.busWrite s.hl o.res).keepFlags o

/-- `BIT b`: Z from the bit, N cleared, H set, C unchanged (R371, R372). -/
def State.testBit (s : State) (b : Fin 8) (v : Byte) : State := s.setFlags (!v.getLsbD b.val) false true s.regs.fc

/-- `RLCA` (R351). -/
def exec_rlca (s : State) : Result := .next (s.rotA .rlc)

/-- `RRCA` (R352). -/
def exec_rrca (s : State) : Result := .next (s.rotA .rrc)

/-- `RLA` (R353). -/
def exec_rla (s : State) : Result := .next (s.rotA .rl)

/-- `RRA` (R354). -/
def exec_rra (s : State) : Result := .next (s.rotA .rr)

/-- `RLC r` (R355). -/
def exec_rlc_r (r : Reg8) (s : State) : Result := .next (s.rotReg .rlc r)

/-- `RLC (HL)` (R356). -/
def exec_rlc_atHL (s : State) : Result := .next (s.rotAtHl .rlc)

/-- `RRC r` (R357). -/
def exec_rrc_r (r : Reg8) (s : State) : Result := .next (s.rotReg .rrc r)

/-- `RRC (HL)` (R358). -/
def exec_rrc_atHL (s : State) : Result := .next (s.rotAtHl .rrc)

/-- `RL r` (R359). -/
def exec_rl_r (r : Reg8) (s : State) : Result := .next (s.rotReg .rl r)

/-- `RL (HL)` (R360). -/
def exec_rl_atHL (s : State) : Result := .next (s.rotAtHl .rl)

/-- `RR r` (R361). -/
def exec_rr_r (r : Reg8) (s : State) : Result := .next (s.rotReg .rr r)

/-- `RR (HL)` (R362). -/
def exec_rr_atHL (s : State) : Result := .next (s.rotAtHl .rr)

/-- `SLA r` (R363). -/
def exec_sla_r (r : Reg8) (s : State) : Result := .next (s.rotReg .sla r)

/-- `SLA (HL)` (R364). -/
def exec_sla_atHL (s : State) : Result := .next (s.rotAtHl .sla)

/-- `SRA r` (R365). -/
def exec_sra_r (r : Reg8) (s : State) : Result := .next (s.rotReg .sra r)

/-- `SRA (HL)` (R366). -/
def exec_sra_atHL (s : State) : Result := .next (s.rotAtHl .sra)

/-- `SWAP r` (R367). -/
def exec_swap_r (r : Reg8) (s : State) : Result := .next (s.rotReg .swap r)

/-- `SWAP (HL)` (R368). -/
def exec_swap_atHL (s : State) : Result := .next (s.rotAtHl .swap)

/-- `SRL r` (R369). -/
def exec_srl_r (r : Reg8) (s : State) : Result := .next (s.rotReg .srl r)

/-- `SRL (HL)` (R370). -/
def exec_srl_atHL (s : State) : Result := .next (s.rotAtHl .srl)

/-- `BIT b,r` (R371). -/
def exec_bit_r (bit : Fin 8) (r : Reg8) (s : State) : Result := .next (s.testBit bit (s.reg r))

/-- `BIT b,(HL)` (R372). -/
def exec_bit_atHL (bit : Fin 8) (s : State) : Result := .next (s.testBit bit (s.busRead s.hl))

/-- `RES b,r` (R373). -/
def exec_res_r (bit : Fin 8) (r : Reg8) (s : State) : Result := .next (s.setReg r (bitResult .res bit (s.reg r)))

/-- `RES b,(HL)` (R374). -/
def exec_res_atHL (bit : Fin 8) (s : State) : Result := .next (s.busWrite s.hl (bitResult .res bit (s.busRead s.hl)))

/-- `SET b,r` (R375). -/
def exec_set_r (bit : Fin 8) (r : Reg8) (s : State) : Result := .next (s.setReg r (bitResult .set bit (s.reg r)))

/-- `SET b,(HL)` (R376). -/
def exec_set_atHL (bit : Fin 8) (s : State) : Result := .next (s.busWrite s.hl (bitResult .set bit (s.busRead s.hl)))

end Sys2Proof.Machine
end

