-- ==== Sys2Proof/Machine/System.lean ====
section
/-! DEFINITION. System and control: one meaning for each instruction of 46_system.md (R440-R446). PC is already past the instruction when a meaning
runs (10_state.md R35). -/

namespace Sys2Proof.Machine

/-- `HALT` (R441): with HALT_BUG, IME = 0 and an enabled interrupt pending, the next opcode byte is repeated instead. -/
def State.halt (s : State) : State :=
  if s.haltBug && !s.ctl.ime && s.pending != 0 then { s with ctl := { s.ctl with haltbugPending := true } }
  else { s with ctl := { s.ctl with halted := true } }

/-- `STOP`: the stopped state, and `sys <- 0` (R442). -/
def State.stop (s : State) : State := State.resetDivider { s with ctl := { s.ctl with stopped := true } }

/-- `EI`: IME follows one instruction later (R444). -/
def State.armIme (s : State) : State := { s with ctl := { s.ctl with imeSched := true } }

/-- Run the instruction of the extended set that `op2` selects by its fields x, y and z (30_encoding.md R161, R163). -/
def State.runCb (s : State) (op2 : Byte) : State :=
  let y : Fin 8 := Fin.ofNat 8 (op2.toNat / 8)
  match op2.toNat / 64, Reg8.ofCode (op2.toNat % 8) with
  | 0, some r => s.rotReg (RotOp.ofCode y.val) r
  | 0, none => s.rotAtHl (RotOp.ofCode y.val)
  | 1, some r => s.testBit y (s.reg r)
  | 1, none => s.testBit y (s.busRead s.hl)
  | 2, some r => s.setReg r (bitResult .res y (s.reg r))
  | 2, none => s.busWrite s.hl (bitResult .res y (s.busRead s.hl))
  | _, some r => s.setReg r (bitResult .set y (s.reg r))
  | _, none => s.busWrite s.hl (bitResult .set y (s.busRead s.hl))

/-- `NOP` (R440). -/
def exec_nop (s : State) : Result := .next s

/-- `STOP` (R442). -/
def exec_stop (_z : Byte) (s : State) : Result := .next s.stop

/-- `HALT` (R441). -/
def exec_halt (s : State) : Result := .next s.halt

/-- `PREFIX CB` (R445). -/
def exec_prefix_cb (op2 : Byte) (s : State) : Result := .next (s.runCb op2)

/-- `ILLEGAL_D3`, an illegal opcode (R446). -/
def exec_illegal_d3 (s : State) : Result := .next s.lock

/-- `ILLEGAL_DB`, an illegal opcode (R446). -/
def exec_illegal_db (s : State) : Result := .next s.lock

/-- `ILLEGAL_DD`, an illegal opcode (R446). -/
def exec_illegal_dd (s : State) : Result := .next s.lock

/-- `ILLEGAL_E3`, an illegal opcode (R446). -/
def exec_illegal_e3 (s : State) : Result := .next s.lock

/-- `ILLEGAL_E4`, an illegal opcode (R446). -/
def exec_illegal_e4 (s : State) : Result := .next s.lock

/-- `ILLEGAL_EB`, an illegal opcode (R446). -/
def exec_illegal_eb (s : State) : Result := .next s.lock

/-- `ILLEGAL_EC`, an illegal opcode (R446). -/
def exec_illegal_ec (s : State) : Result := .next s.lock

/-- `ILLEGAL_ED`, an illegal opcode (R446). -/
def exec_illegal_ed (s : State) : Result := .next s.lock

/-- `DI` (R443). -/
def exec_di (s : State) : Result := .next (s.setIme false)

/-- `ILLEGAL_F4`, an illegal opcode (R446). -/
def exec_illegal_f4 (s : State) : Result := .next s.lock

/-- `EI` (R444). -/
def exec_ei (s : State) : Result := .next s.armIme

/-- `ILLEGAL_FC`, an illegal opcode (R446). -/
def exec_illegal_fc (s : State) : Result := .next s.lock

/-- `ILLEGAL_FD`, an illegal opcode (R446). -/
def exec_illegal_fd (s : State) : Result := .next s.lock

end Sys2Proof.Machine
end

