-- ==== Sys2Proof/Machine/Timing.lean ====
section
/-! DEFINITION. The duration of every instruction in M-cycles (30_encoding.md R166, R170, R175). -/

namespace Sys2Proof.Machine

/-- The duration of a CB instruction from its second byte (R170): 2 on a register, 3 for BIT on `(HL)`, 4 for the others. -/
def cbDuration (op2 : Byte) : Nat :=
  if op2.toNat % 8 = 6 then (if op2.toNat / 64 = 1 then 3 else 4) else 2

/-- `cycles(op)` (R175): the duration of an instruction in M-cycles, from the flags before it. A conditional instruction
takes longer when its condition holds. -/
def duration (i : Instr) (s : State) : Nat :=
  match i with
  | .nop => 1
  | .ld_bc_nn _ => 3
  | .ld_atBC_a => 2
  | .inc_bc => 2
  | .inc_b => 1
  | .dec_b => 1
  | .ld_b_n _ => 2
  | .rlca => 1
  | .ld_atNN_sp _ => 5
  | .add_hl_bc => 2
  | .ld_a_atBC => 2
  | .dec_bc => 2
  | .inc_c => 1
  | .dec_c => 1
  | .ld_c_n _ => 2
  | .rrca => 1
  | .stop _ => 1
  | .ld_de_nn _ => 3
  | .ld_atDE_a => 2
  | .inc_de => 2
  | .inc_d => 1
  | .dec_d => 1
  | .ld_d_n _ => 2
  | .rla => 1
  | .jr_e _ => 3
  | .add_hl_de => 2
  | .ld_a_atDE => 2
  | .dec_de => 2
  | .inc_e => 1
  | .dec_e => 1
  | .ld_e_n _ => 2
  | .rra => 1
  | .jr_nz_e _ => if s.cond .nz then 3 else 2
  | .ld_hl_nn _ => 3
  | .ld_atHLinc_a => 2
  | .inc_hl => 2
  | .inc_h => 1
  | .dec_h => 1
  | .ld_h_n _ => 2
  | .daa => 1
  | .jr_z_e _ => if s.cond .z then 3 else 2
  | .add_hl_hl => 2
  | .ld_a_atHLinc => 2
  | .dec_hl => 2
  | .inc_l => 1
  | .dec_l => 1
  | .ld_l_n _ => 2
  | .cpl => 1
  | .jr_nc_e _ => if s.cond .nc then 3 else 2
  | .ld_sp_nn _ => 3
  | .ld_atHLdec_a => 2
  | .inc_sp => 2
  | .inc_atHL => 3
  | .dec_atHL => 3
  | .ld_atHL_n _ => 3
  | .scf => 1
  | .jr_c_e _ => if s.cond .c then 3 else 2
  | .add_hl_sp => 2
  | .ld_a_atHLdec => 2
  | .dec_sp => 2
  | .inc_a => 1
  | .dec_a => 1
  | .ld_a_n _ => 2
  | .ccf => 1
  | .ld_b_b => 1
  | .ld_b_c => 1
  | .ld_b_d => 1
  | .ld_b_e => 1
  | .ld_b_h => 1
  | .ld_b_l => 1
  | .ld_b_atHL => 2
  | .ld_b_a => 1
  | .ld_c_b => 1
  | .ld_c_c => 1
  | .ld_c_d => 1
  | .ld_c_e => 1
  | .ld_c_h => 1
  | .ld_c_l => 1
  | .ld_c_atHL => 2
  | .ld_c_a => 1
  | .ld_d_b => 1
  | .ld_d_c => 1
  | .ld_d_d => 1
  | .ld_d_e => 1
  | .ld_d_h => 1
  | .ld_d_l => 1
  | .ld_d_atHL => 2
  | .ld_d_a => 1
  | .ld_e_b => 1
  | .ld_e_c => 1
  | .ld_e_d => 1
  | .ld_e_e => 1
  | .ld_e_h => 1
  | .ld_e_l => 1
  | .ld_e_atHL => 2
  | .ld_e_a => 1
  | .ld_h_b => 1
  | .ld_h_c => 1
  | .ld_h_d => 1
  | .ld_h_e => 1
  | .ld_h_h => 1
  | .ld_h_l => 1
  | .ld_h_atHL => 2
  | .ld_h_a => 1
  | .ld_l_b => 1
  | .ld_l_c => 1
  | .ld_l_d => 1
  | .ld_l_e => 1
  | .ld_l_h => 1
  | .ld_l_l => 1
  | .ld_l_atHL => 2
  | .ld_l_a => 1
  | .ld_atHL_b => 2
  | .ld_atHL_c => 2
  | .ld_atHL_d => 2
  | .ld_atHL_e => 2
  | .ld_atHL_h => 2
  | .ld_atHL_l => 2
  | .halt => 1
  | .ld_atHL_a => 2
  | .ld_a_b => 1
  | .ld_a_c => 1
  | .ld_a_d => 1
  | .ld_a_e => 1
  | .ld_a_h => 1
  | .ld_a_l => 1
  | .ld_a_atHL => 2
  | .ld_a_a => 1
  | .add_a_b => 1
  | .add_a_c => 1
  | .add_a_d => 1
  | .add_a_e => 1
  | .add_a_h => 1
  | .add_a_l => 1
  | .add_a_atHL => 2
  | .add_a_a => 1
  | .adc_a_b => 1
  | .adc_a_c => 1
  | .adc_a_d => 1
  | .adc_a_e => 1
  | .adc_a_h => 1
  | .adc_a_l => 1
  | .adc_a_atHL => 2
  | .adc_a_a => 1
  | .sub_b => 1
  | .sub_c => 1
  | .sub_d => 1
  | .sub_e => 1
  | .sub_h => 1
  | .sub_l => 1
  | .sub_atHL => 2
  | .sub_a => 1
  | .sbc_a_b => 1
  | .sbc_a_c => 1
  | .sbc_a_d => 1
  | .sbc_a_e => 1
  | .sbc_a_h => 1
  | .sbc_a_l => 1
  | .sbc_a_atHL => 2
  | .sbc_a_a => 1
  | .and_b => 1
  | .and_c => 1
  | .and_d => 1
  | .and_e => 1
  | .and_h => 1
  | .and_l => 1
  | .and_atHL => 2
  | .and_a => 1
  | .xor_b => 1
  | .xor_c => 1
  | .xor_d => 1
  | .xor_e => 1
  | .xor_h => 1
  | .xor_l => 1
  | .xor_atHL => 2
  | .xor_a => 1
  | .or_b => 1
  | .or_c => 1
  | .or_d => 1
  | .or_e => 1
  | .or_h => 1
  | .or_l => 1
  | .or_atHL => 2
  | .or_a => 1
  | .cp_b => 1
  | .cp_c => 1
  | .cp_d => 1
  | .cp_e => 1
  | .cp_h => 1
  | .cp_l => 1
  | .cp_atHL => 2
  | .cp_a => 1
  | .ret_nz => if s.cond .nz then 5 else 2
  | .pop_bc => 3
  | .jp_nz_nn _ => if s.cond .nz then 4 else 3
  | .jp_nn _ => 4
  | .call_nz_nn _ => if s.cond .nz then 6 else 3
  | .push_bc => 4
  | .add_a_n _ => 2
  | .rst_00 => 4
  | .ret_z => if s.cond .z then 5 else 2
  | .ret => 4
  | .jp_z_nn _ => if s.cond .z then 4 else 3
  | .prefix_cb op2 => cbDuration op2
  | .call_z_nn _ => if s.cond .z then 6 else 3
  | .call_nn _ => 6
  | .adc_a_n _ => 2
  | .rst_08 => 4
  | .ret_nc => if s.cond .nc then 5 else 2
  | .pop_de => 3
  | .jp_nc_nn _ => if s.cond .nc then 4 else 3
  | .illegal_d3 => 1
  | .call_nc_nn _ => if s.cond .nc then 6 else 3
  | .push_de => 4
  | .sub_n _ => 2
  | .rst_10 => 4
  | .ret_c => if s.cond .c then 5 else 2
  | .reti => 4
  | .jp_c_nn _ => if s.cond .c then 4 else 3
  | .illegal_db => 1
  | .call_c_nn _ => if s.cond .c then 6 else 3
  | .illegal_dd => 1
  | .sbc_a_n _ => 2
  | .rst_18 => 4
  | .ldh_atN_a _ => 3
  | .pop_hl => 3
  | .ld_atC_a => 2
  | .illegal_e3 => 1
  | .illegal_e4 => 1
  | .push_hl => 4
  | .and_n _ => 2
  | .rst_20 => 4
  | .add_sp_e _ => 4
  | .jp_hl => 1
  | .ld_atNN_a _ => 4
  | .illegal_eb => 1
  | .illegal_ec => 1
  | .illegal_ed => 1
  | .xor_n _ => 2
  | .rst_28 => 4
  | .ldh_a_atN _ => 3
  | .pop_af => 3
  | .ld_a_atC => 2
  | .di => 1
  | .illegal_f4 => 1
  | .push_af => 4
  | .or_n _ => 2
  | .rst_30 => 4
  | .ld_hl_spe _ => 3
  | .ld_sp_hl => 2
  | .ld_a_atNN _ => 4
  | .ei => 1
  | .illegal_fc => 1
  | .illegal_fd => 1
  | .cp_n _ => 2
  | .rst_38 => 4
  | .rlc_r _ => 2
  | .rlc_atHL => 4
  | .rrc_r _ => 2
  | .rrc_atHL => 4
  | .rl_r _ => 2
  | .rl_atHL => 4
  | .rr_r _ => 2
  | .rr_atHL => 4
  | .sla_r _ => 2
  | .sla_atHL => 4
  | .sra_r _ => 2
  | .sra_atHL => 4
  | .swap_r _ => 2
  | .swap_atHL => 4
  | .srl_r _ => 2
  | .srl_atHL => 4
  | .bit_r _ _ => 2
  | .bit_atHL _ => 3
  | .res_r _ _ => 2
  | .res_atHL _ => 4
  | .set_r _ _ => 2
  | .set_atHL _ => 4

end Sys2Proof.Machine
end

