-- ==== Sys2Proof/Machine/Run.lean ====
section
/-! DEFINITION. The step algorithm of 60_exceptions.md R500: fetching an instruction's bytes, running it, and the four
kinds of step. -/

namespace Sys2Proof.Machine

/-- Fetch one instruction: the opcode by `Fetch8`, then each operand byte by `Fetch8` (00_scope.md R15, 30_encoding.md
R173, R174). PC is past the instruction afterwards. -/
def State.fetchInstr (s : State) : Instr × State :=
  let f1 := s.fetch8
  match instrLength f1.1 with
  | 1 => (decodeBytes f1.1 0 0, f1.2)
  | 2 =>
    let f2 := f1.2.fetch8
    (decodeBytes f1.1 f2.1 0, f2.2)
  | _ =>
    let f2 := f1.2.fetch8
    let f3 := f2.2.fetch8
    (decodeBytes f1.1 f2.1 f3.1, f3.2)

/-- An instruction step from the state after the fetch: the operation, the delayed enable of EI, and the advance by the
instruction's duration (R500, R503, R505). `armed` is `ime_sched` before the instruction. -/
def runDecoded (armed : Bool) (i : Instr) (s : State) : Result :=
  match exec i s with
  | .next t => .next ((t.retireEi armed).advance (duration i s))
  | .fault r => .fault r
  | .refused r => .refused r

/-- `step()` (R500): a locked idle, an interrupt dispatch, a halted or stopped idle, or one instruction. -/
def stepBody (s : State) : Result :=
  if s.ctl.locked then .next (s.advance 1)
  else
    let w := s.wake
    if s.pending ≠ 0 ∧ s.ctl.ime then .next ((w.dispatch s.pending).advance 5)
    else if w.ctl.halted ∨ w.ctl.stopped then .next (w.advance 1)
    else
      let f := w.fetchInstr
      runDecoded w.ctl.imeSched f.1 f.2

end Sys2Proof.Machine
end

