-- ==== Sys2Proof/Machine/Step.lean ====
section
/-! DEFINITION. The step function, and the state with an instruction where it fetches. -/

namespace Sys2Proof.Machine

/-- One step of the machine (60_exceptions.md R500). -/
def step (s : State) : Host.Outcome State Fault Refusal := stepBody s

/-- The state with the instruction whose table bits are `w` (the bits above `nbits` zero) put where `step` fetches next:
at PC, in the memory that answers there, which at reset is the cartridge image (notes/assumptions/6.md). -/
def State.withFetchWord (s : State) (nbits w : Nat) : State := s.placeNext (tableWordBytes nbits w)

end Sys2Proof.Machine
end

