-- ==== Sys2Proof/Machine/HostIface.lean ====
section
/-! DEFINITION. What the host does between steps (70_reset_and_hazards.md R712-R716): key masks, the frame flag, taking the
records, reading memories, and the two driving loops. -/

namespace Sys2Proof.Machine

/-- A host action (R716). Reading is not an action: it changes nothing. -/
inductive HostAction where
  /-- Set the two active-low key masks, which runs the joypad edge check (60_exceptions.md R570, R571). -/
  | setKeys (buttons dirs : BitVec 4)
  /-- Clear `frame_done`. -/
  | clearFrameDone
  /-- Take the line records handed over so far (60_exceptions.md R640). -/
  | takeLines
  /-- Take the sample records handed over so far (60_exceptions.md R690). -/
  | takeSamples
  deriving DecidableEq, Repr

/-- The effect of a host action (R716). -/
def State.hostAct (s : State) : HostAction → State
  | .setKeys buttons dirs => State.joypadCheck { s with joy := { s.joy with buttons := buttons, dirs := dirs } }
  | .clearFrameDone => { s with pic := { s.pic with frameDone := false } }
  | .takeLines => { s with pic := { s.pic with lines := [] } }
  | .takeSamples => { s with snd := { s.snd with samples := [] } }

/-- The save image (R712): MBC2's 512 cells one byte each, else the external RAM, bank 0 first. -/
def State.saveImage (s : State) : List Byte :=
  if s.bank.mbc = .mbc2 then s.mem.ram2.slice 0 512 else s.mem.eram.slice 0 s.bank.ramSize

/-- VRAM as the host reads it, never blocked (R716). -/
def State.hostVram (s : State) : List Byte := s.mem.vram.slice 0 0x2000

/-- OAM as the host reads it, never blocked (R716). -/
def State.hostOam (s : State) : List Byte := s.mem.oam.slice 0 160

/-- `RunUntil(N)` (R715) with at most `fuel` steps. -/
def runUntil (n : Nat) : Nat → State → Result
  | 0, s => .next s
  | fuel + 1, s =>
    if s.cycles < n then
      match step s with
      | .next t => runUntil n fuel t
      | .fault r => .fault r
      | .refused r => .refused r
    else .next s

/-- The loop of `RunFrame()`: at least one step, until `frame_done` (R714), with at most `fuel` steps. -/
def frameLoop : Nat → State → Result
  | 0, s => .next s
  | fuel + 1, s =>
    match step s with
    | .next t => if t.pic.frameDone then .next t else frameLoop fuel t
    | .fault r => .fault r
    | .refused r => .refused r

/-- `RunFrame()` (R714) with at most `fuel` steps. -/
def runFrame (fuel : Nat) (s : State) : Result := frameLoop fuel (s.hostAct .clearFrameDone)

end Sys2Proof.Machine
end

