-- ==== Sys2Proof/Machine/Launch.lean ====
section
/-! DEFINITION. Launching the machine: the open parameters of 00_scope.md R11, the launch checks (70_reset_and_hazards.md
R706), and the reset state of both reset modes (R700, R701) for every choice of the parameters and of the draws. -/

namespace Sys2Proof.Machine

/-- The values a reset leaves open (`draw`, 00_scope.md R18): registers in boot-ROM mode (10_state.md R36), and the
write-only bits, palettes and counters of post-boot mode (R66, R75, R76). `lfsr` is the noise register in post-boot mode,
which R76 does not state. -/
structure Draws where
  bootRegs : Regs
  obp0 : Byte
  obp1 : Byte
  nr13 : Byte
  nr14 : Byte
  nr23 : Byte
  nr24 : Byte
  nr31 : Byte
  nr33 : Byte
  nr34 : Byte
  nr41 : Byte
  len1 : Fin 65
  envTimer1 : Fin 9
  shadow : BitVec 11
  sweepTimer : Fin 9
  lfsr : BitVec 15
  deriving DecidableEq, Repr

/-- INIT_RAM: what VRAM, WRAM, OAM, HRAM and wave RAM hold at reset, as byte strings (70_reset_and_hazards.md R705). Bytes
past a string's end are 0x00 and bytes past the memory's end are not used. -/
structure InitRam where
  vram : List Byte
  wram : List Byte
  oam : List Byte
  hram : List Byte
  wave : List Byte
  deriving DecidableEq, Repr

/-- The launch parameters (00_scope.md R11), the host's key masks at launch (10_state.md R59) and the draws. -/
structure LaunchParams where
  cart : List Byte
  save : Option (List Byte)
  bootRom : Option (List Byte)
  haltBug : Bool
  samplePeriod : Nat
  initRam : InitRam
  buttons : BitVec 4
  dirs : BitVec 4
  draws : Draws
  deriving DecidableEq, Repr

/-- Why a launch is refused (70_reset_and_hazards.md R706, 20_memory.md R120). -/
inductive LaunchRefusal where
  /-- `CART[0x148]` is above 8. -/
  | romSizeCode
  /-- The image size is not `32 KiB << CART[0x148]`. -/
  | imageSize
  /-- BOOT_ROM is present and not exactly 256 bytes. -/
  | bootRomSize
  /-- SAMPLE_PERIOD is 0, and R11 makes it a positive natural. -/
  | samplePeriodZero
  deriving DecidableEq, Repr

/-- A byte of the cartridge image; 0x00 past its end. -/
def cartByte (cart : List Byte) (k : Nat) : Byte := cart.getD k 0

/-- The mapper type table on `CART[0x147]`: kind, `has_ram`, `has_battery` (R125). -/
def mapperType (v : Byte) : Mbc × Bool × Bool :=
  match v.toNat with
  | 0x00 => (.none, false, false)
  | 0x01 => (.mbc1, false, false)
  | 0x02 => (.mbc1, true, false)
  | 0x03 => (.mbc1, true, true)
  | 0x05 => (.mbc2, true, false)
  | 0x06 => (.mbc2, true, true)
  | 0x08 => (.none, true, false)
  | 0x09 => (.none, true, true)
  | 0x0F => (.mbc3, false, true)
  | 0x10 => (.mbc3, true, true)
  | 0x11 => (.mbc3, false, false)
  | 0x12 => (.mbc3, true, false)
  | 0x13 => (.mbc3, true, true)
  | 0x19 => (.mbc5, false, false)
  | 0x1A => (.mbc5, true, false)
  | 0x1B => (.mbc5, true, true)
  | 0x1C => (.mbc5, false, false)
  | 0x1D => (.mbc5, true, false)
  | 0x1E => (.mbc5, true, true)
  | _ => (.fallback, false, false)

/-- The RAM size table on `CART[0x149]`, in bytes (R126). -/
def ramSizeOf (v : Byte) : Nat :=
  match v.toNat with
  | 0x01 => 0x800
  | 0x02 => 0x2000
  | 0x03 => 0x8000
  | 0x04 => 0x20000
  | 0x05 => 0x10000
  | _ => 0

/-- BankState at reset from the header bytes 0x147, 0x148 and 0x149 (R121, R125, R126, R133). -/
def Bank.ofHeader (type romCode ramCode : Byte) : Bank :=
  let m := mapperType type
  { mbc := m.1, hasRam := m.2.1, hasBattery := m.2.2
    romBanks := 2 * 2 ^ romCode.toNat
    ramSize := if m.2.1 && m.1 != .mbc2 then ramSizeOf ramCode else 0
    ramEn := m.1 == .none && m.2.1
    lo5 := 1, hi2 := 0, mode1 := false, rom4 := 1, rom7 := 1, ramSel := 0, rom9 := 1, ram4 := 0 }

/-- The external RAM at reset: SAVE on a battery cartridge, missing bytes 0x00; else zeroed (R135). -/
def saveBytes (b : Bank) (save : Option (List Byte)) : List Byte :=
  if b.hasBattery then (save.getD []).take b.ramSize else []

/-- MBC2's cells at reset: the low nibbles of the first 512 bytes of SAVE (R135). -/
def saveCells (b : Bank) (save : Option (List Byte)) : List Byte :=
  if b.mbc = .mbc2 && b.hasBattery then ((save.getD []).take 512).map (fun v => v &&& 0x0F) else []

/-- The memories at reset (R120, R135, 70_reset_and_hazards.md R705). -/
def Memory.ofLaunch (p : LaunchParams) (b : Bank) : Memory :=
  { rom := Store.ofBytes p.cart
    vram := Store.ofBytes (p.initRam.vram.take 0x2000)
    eram := Store.ofBytes (saveBytes b p.save)
    ram2 := Store.ofBytes (saveCells b p.save)
    wram := Store.ofBytes (p.initRam.wram.take 0x2000)
    oam := Store.ofBytes (p.initRam.oam.take 160)
    hram := Store.ofBytes (p.initRam.hram.take 127)
    wave := Store.ofBytes (p.initRam.wave.take 16) }

/-- The picture unit in post-boot mode (10_state.md R60-R68): line 0, unit 0, mode 2. -/
def Picture.postBoot (d : Draws) (oam : Store) : Picture :=
  { Picture.reset with obp0 := d.obp0, obp1 := d.obp1, lineSprites := selectSprites oam 0x91 0 }

/-- The picture unit in boot-ROM mode (10_state.md R60-R68): every register 0x00 and the display off. -/
def Picture.powerOn : Picture :=
  { lcdc := 0, statEn := 0, scy := 0, scx := 0, lyc := 0, dma := 0, bgp := 0, obp0 := 0, obp1 := 0, wy := 0, wx := 0
    ly := 0, u := 0, mode := .hblank, coinc := false, winLine := 0, lineSprites := [], frameDone := false
    offCount := 0, lines := [] }

/-- The sound unit in post-boot mode (10_state.md R75, R76). R75 gives NR14, NR24 and NR34 the bits 6-3 as 0
(notes/assumptions/11.md). DESIGN CHOICE (notes/assumptions/21.md): the hidden write-only bits of NR11 and NR21 (5-0) and of
NR44 (7) are the 0 of R75's table, where its closing sentence makes such bits a `draw`. -/
def Sound.postBoot (d : Draws) : Sound :=
  { Sound.reset with
    nr13 := d.nr13, nr14 := d.nr14 &&& 0x87, nr23 := d.nr23, nr24 := d.nr24 &&& 0x87
    nr31 := d.nr31, nr33 := d.nr33, nr34 := d.nr34 &&& 0x87, nr41 := d.nr41
    ch1 := { active := true, len := d.len1.val }
    env1 := { vol := 0, timer := d.envTimer1.val }
    sweep := { shadow := d.shadow, timer := d.sweepTimer.val, en := false }
    lfsr := d.lfsr }

/-- The sound unit in boot-ROM mode: every register and counter 0, power off, and `lfsr = 0x7FFF` (10_state.md R75, R76). -/
def Sound.powerOn : Sound := Sound.reset.powerOff

/-- What the two reset modes share (70_reset_and_hazards.md R701), in post-boot mode's registers. -/
def State.postBoot (p : LaunchParams) : State :=
  let b := Bank.ofHeader (cartByte p.cart 0x147) (cartByte p.cart 0x148) (cartByte p.cart 0x149)
  let m := Memory.ofLaunch p b
  { State.reset with
    joy := { sel := 0, buttons := p.buttons, dirs := p.dirs, last := 0xF }
    pic := Picture.postBoot p.draws m.oam
    snd := Sound.postBoot p.draws
    bank := b
    mem := m
    mapperUnsupported := b.mbc == .fallback
    haltBug := p.haltBug
    samplePeriod := p.samplePeriod }

/-- The boot-ROM mode (70_reset_and_hazards.md R700): the power-on registers, PC 0x0000 and the overlay on. -/
def State.powerOn (p : LaunchParams) (boot : List Byte) : State :=
  { State.postBoot p with
    regs := { p.draws.bootRegs with pc := 0x0000 }
    irq := { iflag := 0, ie := 0 }
    timer := { sys := 0, tima := 0, tma := 0, tac := 0 }
    pic := Picture.powerOn
    snd := Sound.powerOn
    bootRom := some (Store.ofBytes boot)
    bootOff := false }

/-- The launch (R700, R706): refused, or the reset state of the mode that BOOT_ROM chooses. -/
def State.launch (p : LaunchParams) : Except LaunchRefusal State :=
  let code := (cartByte p.cart 0x148).toNat
  if code > 8 then .error .romSizeCode
  else if p.cart.length ≠ 0x8000 * 2 ^ code then .error .imageSize
  else if p.samplePeriod = 0 then .error .samplePeriodZero
  else match p.bootRom with
    | none => .ok (State.postBoot p)
    | some boot => if boot.length ≠ 256 then .error .bootRomSize else .ok (State.powerOn p boot)

/-- The launch of `State.reset`: a 32 KiB cartridge of zero bytes, every open value 0 but `lfsr`, HALT_BUG false and
SAMPLE_PERIOD 32 (notes/assumptions/4.md, 5.md). -/
def LaunchParams.default : LaunchParams :=
  { cart := List.replicate 0x8000 0, save := none, bootRom := none, haltBug := false, samplePeriod := 32
    initRam := { vram := [], wram := [], oam := [], hram := [], wave := [] }
    buttons := 0xF, dirs := 0xF
    draws :=
      { bootRegs := Regs.reset, obp0 := 0, obp1 := 0, nr13 := 0, nr14 := 0, nr23 := 0, nr24 := 0, nr31 := 0
        nr33 := 0, nr34 := 0, nr41 := 0, len1 := 0, envTimer1 := 0, shadow := 0, sweepTimer := 0, lfsr := 0x7FFF } }

end Sys2Proof.Machine
end

