-- ==== Sys2Proof/Safety.lean ====
section
/-! DEFINITION. The terms that claims about runs use: the invariants of the machine, the states a run reaches, and what it
means that one part of the state is kept. -/

namespace Sys2Proof

/-! ### The field values of the opcode map -/

/-- The field value of a pair in `rp[.]` (30_encoding.md R162). -/
def Reg16.code : Reg16 → Nat
  | .bc => 0 | .de => 1 | .hl => 2 | .sp => 3

/-- The field value of a pair in `rp2[.]` (R162). -/
def StackReg.code : StackReg → Nat
  | .bc => 0 | .de => 1 | .hl => 2 | .af => 3

/-- The field value of a condition in `cc[.]` (R162). -/
def Cond.code : Cond → Nat
  | .nz => 0 | .z => 1 | .nc => 2 | .c => 3

/-- The field value of an operation in `alu[.]` (R162). -/
def AluOp.code : AluOp → Nat
  | .add => 0 | .adc => 1 | .sub => 2 | .sbc => 3 | .and => 4 | .xor => 5 | .or => 6 | .cp => 7

/-- The field value of an operation in `rot[.]` (R162). -/
def RotOp.code : RotOp → Nat
  | .rlc => 0 | .rrc => 1 | .rl => 2 | .rr => 3 | .sla => 4 | .sra => 5 | .swap => 6 | .srl => 7

/-- The field x of a bit instruction's second byte (R163). -/
def BitOp.code : BitOp → Nat
  | .bit => 1 | .res => 2 | .set => 3

/-- The byte with the fields `x = v[7:6]`, `y = v[5:3]`, `z = v[2:0]` (R161). -/
def fieldByte (x y z : Nat) : Byte := BitVec.ofNat 8 (64 * x + 8 * y + z)

/-- The 8-bit registers that a pair of `rp2[.]` is made of, F apart (10_state.md R30). -/
def StackReg.halves : StackReg → List Reg8
  | .bc => [.b, .c]
  | .de => [.d, .e]
  | .hl => [.h, .l]
  | .af => [.a]

end Sys2Proof

namespace Sys2Proof.Machine

/-! ### Invariants -/

/-- Every backing memory is canonical and inside its size (20_memory.md R80), and MBC2's cells are 4 bits wide (R129). -/
def Memory.wf (m : Memory) (b : Bank) : Bool :=
  m.rom.wf (b.romBanks * 0x4000) && m.vram.wf 0x2000 && m.eram.wf b.ramSize && m.ram2.wf 512
    && m.ram2.all (fun c => decide (c.2.toNat < 16)) && m.wram.wf 0x2000 && m.oam.wf 160 && m.hram.wf 127 && m.wave.wf 16

/-- The memories and the boot overlay are canonical. -/
def State.MemOk (s : State) : Prop := s.mem.wf s.bank = true ∧ ∀ m, s.bootRom = some m → m.wf 256 = true

/-- The mode that the line and the unit call for while the display is on (60_exceptions.md R601). -/
def scheduledMode (ly u : Nat) : Mode :=
  if ly ≥ 144 then .vblank else if u < 20 then .oamSearch else if u < 63 then .transfer else .hblank

/-- The PictureTimer is where R601, R610, R630 and R631 put it. -/
def State.PicOk (s : State) : Prop :=
  s.pic.offCount < 17556 ∧ s.pic.lineSprites.length ≤ 10 ∧ (∀ i ∈ s.pic.lineSprites, i < 40)
    ∧ (s.displayOn = true → s.pic.ly < 154 ∧ s.pic.u < 114 ∧ s.pic.mode = scheduledMode s.pic.ly s.pic.u
        ∧ (144 ≤ s.pic.ly → s.pic.lineSprites = []))
    ∧ (s.displayOn = false → s.pic.ly = 0 ∧ s.pic.u = 0 ∧ s.pic.mode = .hblank ∧ s.pic.lineSprites = [])

/-- The SoundTimer's counters are in the ranges of 10_state.md R76, and no channel is active while power is off
(60_exceptions.md R690). -/
def State.SndOk (s : State) : Prop :=
  s.snd.ch1.len ≤ 64 ∧ s.snd.ch2.len ≤ 64 ∧ s.snd.ch3.len ≤ 256 ∧ s.snd.ch4.len ≤ 64
    ∧ s.snd.env1.timer ≤ 8 ∧ s.snd.env2.timer ≤ 8 ∧ s.snd.env4.timer ≤ 8 ∧ s.snd.sweep.timer ≤ 8
    ∧ s.snd.fsCount < 2048 ∧ s.snd.fsStep < 8 ∧ s.snd.sampleCount < s.samplePeriod
    ∧ (s.snd.power = false →
        s.snd.ch1.active = false ∧ s.snd.ch2.active = false ∧ s.snd.ch3.active = false ∧ s.snd.ch4.active = false)

/-- The serial count is in its range, and counts only while SC bit 7 is set (10_state.md R59, 60_exceptions.md R575). -/
def State.SerOk (s : State) : Prop := s.ser.count ≤ 1024 ∧ (s.ser.count ≠ 0 → s.ser.start = true)

/-- A byte is repeated only on a machine with the HALT bug (10_state.md R45). -/
def State.CtlOk (s : State) : Prop := s.ctl.haltbugPending = true → s.haltBug = true

/-- The bank fields that alias 0 to 1 never hold 0 (20_memory.md R127, R129, R130). -/
def State.BankOk (s : State) : Prop := s.bank.lo5 ≠ 0 ∧ s.bank.rom4 ≠ 0 ∧ s.bank.rom7 ≠ 0

/-- No channel is active with its DAC off (60_exceptions.md R665, R666). -/
def State.DacOk (s : State) : Prop :=
  (s.snd.ch1.active = true → envDacOn s.snd.nr12 = true) ∧ (s.snd.ch2.active = true → envDacOn s.snd.nr22 = true)
    ∧ (s.snd.ch3.active = true → waveDacOn s.snd.nr30 = true) ∧ (s.snd.ch4.active = true → envDacOn s.snd.nr42 = true)

/-- The invariant of the machine. -/
def State.Inv (s : State) : Prop := s.MemOk ∧ s.PicOk ∧ s.SndOk ∧ s.DacOk ∧ s.SerOk ∧ s.CtlOk ∧ s.BankOk

/-! ### Runs -/

/-- The states a run reaches: a launch that is not refused, then steps and host actions between them
(70_reset_and_hazards.md R700, R716). -/
inductive Reachable : State → Prop where
  | launch {p : LaunchParams} {s : State} (h : State.launch p = .ok s) : Reachable s
  | step {s t : State} (hs : Reachable s) (h : Machine.step s = .next t) : Reachable t
  | host {s : State} (hs : Reachable s) (a : HostAction) : Reachable (s.hostAct a)

/-- The rows of the mapper type table (20_memory.md R125): the value of `CART[0x147]`, the kind, `has_ram` and
`has_battery`. Any other value is FALLBACK with neither. -/
def headerTypes : List (Byte × Mbc × Bool × Bool) :=
  [(0x00, .none, false, false), (0x01, .mbc1, false, false), (0x02, .mbc1, true, false), (0x03, .mbc1, true, true),
    (0x05, .mbc2, true, false), (0x06, .mbc2, true, true), (0x08, .none, true, false), (0x09, .none, true, true),
    (0x0F, .mbc3, false, true), (0x10, .mbc3, true, true), (0x11, .mbc3, false, false), (0x12, .mbc3, true, false),
    (0x13, .mbc3, true, true), (0x19, .mbc5, false, false), (0x1A, .mbc5, true, false), (0x1B, .mbc5, true, true),
    (0x1C, .mbc5, false, false), (0x1D, .mbc5, true, false), (0x1E, .mbc5, true, true)]

/-- The rows of the RAM size table (20_memory.md R126): the value of `CART[0x149]` and the bytes. Any other value is none. -/
def headerRamSizes : List (Byte × Nat) :=
  [(0x01, 2 * 1024), (0x02, 8 * 1024), (0x03, 32 * 1024), (0x04, 128 * 1024), (0x05, 64 * 1024)]

/-- What a launch fixes (00_scope.md R11): the image, the overlay, the header's facts and the two parameters. -/
structure Fixed where
  rom : Store
  bootRom : Option Store
  mbc : Mbc
  hasRam : Bool
  hasBattery : Bool
  romBanks : Nat
  ramSize : Nat
  mapperUnsupported : Bool
  haltBug : Bool
  samplePeriod : Nat
  deriving DecidableEq, Repr

/-- The fixed part of a state. -/
def State.fixed (s : State) : Fixed :=
  { rom := s.mem.rom, bootRom := s.bootRom, mbc := s.bank.mbc, hasRam := s.bank.hasRam, hasBattery := s.bank.hasBattery
    romBanks := s.bank.romBanks, ramSize := s.bank.ramSize, mapperUnsupported := s.mapperUnsupported
    haltBug := s.haltBug, samplePeriod := s.samplePeriod }

/-! ### What an instruction's rule gives beside its effect -/

/-- The bytes of an instruction and its duration from `s` (30_encoding.md R165, R166, R170). -/
def Coded (i : Instr) (bytes : List Byte) (n : Nat) (s : State) : Prop := encode i = bytes ∧ duration i s = n

/-- The four flags are these. -/
def FlagsAre (t : State) (z n h c : Bool) : Prop :=
  t.regs.fz = z ∧ t.regs.fn = n ∧ t.regs.fh = h ∧ t.regs.fc = c

/-! ### Frames -/

/-- Everything outside the register file is as it was, every special register and memory among it, and so every byte
reads as before. -/
def KeepsAllButRegs (s t : State) : Prop := t = { s with regs := t.regs } ∧ ∀ a, t.busRead a = s.busRead a

/-- Every 8-bit register outside `ws` is as it was. -/
def KeepsRegs (ws : List Reg8) (s t : State) : Prop := ∀ q, q ∉ ws → t.reg q = s.reg q

/-- The four flags are as they were. -/
def KeepsFlags (s t : State) : Prop :=
  t.regs.fz = s.regs.fz ∧ t.regs.fn = s.regs.fn ∧ t.regs.fh = s.regs.fh ∧ t.regs.fc = s.regs.fc

/-- SP is as it was. -/
def KeepsSp (s t : State) : Prop := t.regs.sp = s.regs.sp

/-- PC is as it was: past the instruction, where the fetch put it (10_state.md R35). -/
def KeepsPc (s t : State) : Prop := t.regs.pc = s.regs.pc

/-- The frame of a form that writes 8-bit registers of `ws`, perhaps flags, and nothing else. -/
def WritesOnly (ws : List Reg8) (s t : State) : Prop :=
  KeepsRegs ws s t ∧ KeepsSp s t ∧ KeepsPc s t ∧ KeepsAllButRegs s t

/-- The frame of a form that writes one register pair, perhaps flags, and nothing else. -/
def WritesOnlyPair (r : Reg16) (s t : State) : Prop :=
  (∀ q, q ≠ r → t.pair q = s.pair q) ∧ t.reg .a = s.reg .a ∧ KeepsPc s t ∧ KeepsAllButRegs s t

/-- The form loads A from the byte at `a` and changes nothing else (40_loads_8bit.md R205-R218). -/
def LoadsA (i : Instr) (bytes : List Byte) (n : Nat) (a : Word) (s : State) : Prop :=
  Coded i bytes n s ∧ ∃ t, exec i s = .next t ∧ t.reg .a = s.busRead a ∧ KeepsFlags s t ∧ WritesOnly [.a] s t

/-! ### Arithmetic -/

/-- A becomes `A + v + cin` with the flags of `Add8` (42_alu_8bit.md R280): C and H are the carries out of bits 7 and 3. -/
def AddsToA (s t : State) (v : Byte) (cin : Bool) : Prop :=
  (t.reg .a).toNat + 256 * t.regs.fc.toNat = (s.reg .a).toNat + v.toNat + cin.toNat
    ∧ (t.reg .a).toNat % 16 + 16 * t.regs.fh.toNat = (s.reg .a).toNat % 16 + v.toNat % 16 + cin.toNat
    ∧ t.regs.fz = decide (t.reg .a = 0) ∧ t.regs.fn = false ∧ WritesOnly [.a] s t

/-- A becomes `A - v - cin` with the flags of `Sub8` (R280): C and H are the borrows of the byte and of the low nibble. -/
def SubtractsFromA (s t : State) (v : Byte) (cin : Bool) : Prop :=
  (t.reg .a).toNat + v.toNat + cin.toNat = (s.reg .a).toNat + 256 * t.regs.fc.toNat
    ∧ (t.reg .a).toNat % 16 + v.toNat % 16 + cin.toNat = (s.reg .a).toNat % 16 + 16 * t.regs.fh.toNat
    ∧ t.regs.fz = decide (t.reg .a = 0) ∧ t.regs.fn = true ∧ WritesOnly [.a] s t

/-- A is compared with `v`: the flags of `Sub8(A, v, 0)` and no register written (R302). -/
def ComparesWithA (s t : State) (v : Byte) : Prop :=
  FlagsAre t (decide (s.reg .a = v)) true (decide ((s.reg .a).toNat % 16 < v.toNat % 16))
      (decide ((s.reg .a).toNat < v.toNat))
    ∧ WritesOnly [] s t

/-- What `alu[op]` does to A and the flags, by the operation (R281-R304). -/
def AluEffect (op : AluOp) (s t : State) (v : Byte) : Prop :=
  match op with
  | .add => AddsToA s t v false
  | .adc => AddsToA s t v s.regs.fc
  | .sub => SubtractsFromA s t v false
  | .sbc => SubtractsFromA s t v s.regs.fc
  | .and => t.reg .a = s.reg .a &&& v ∧ FlagsAre t (decide (s.reg .a &&& v = 0)) false true false ∧ WritesOnly [.a] s t
  | .xor => t.reg .a = s.reg .a ^^^ v ∧ FlagsAre t (decide (s.reg .a ^^^ v = 0)) false false false ∧ WritesOnly [.a] s t
  | .or => t.reg .a = s.reg .a ||| v ∧ FlagsAre t (decide (s.reg .a ||| v = 0)) false false false ∧ WritesOnly [.a] s t
  | .cp => ComparesWithA s t v

/-- Bit `i` of the result of `Rot(k, v, cin)` (44_rotate_shift_bit.md R350). -/
def rotBit (k : RotOp) (v : Byte) (cin : Bool) (i : Nat) : Bool :=
  match k with
  | .rlc => v.getLsbD ((i + 7) % 8)
  | .rrc => v.getLsbD ((i + 1) % 8)
  | .rl => if i = 0 then cin else v.getLsbD (i - 1)
  | .rr => if i = 7 then cin else v.getLsbD (i + 1)
  | .sla => if i = 0 then false else v.getLsbD (i - 1)
  | .sra => if i = 7 then v.getLsbD 7 else v.getLsbD (i + 1)
  | .swap => v.getLsbD ((i + 4) % 8)
  | .srl => if i = 7 then false else v.getLsbD (i + 1)

/-- The carry out of `Rot(k, v, cin)` (R350). -/
def rotCarry (k : RotOp) (v : Byte) : Bool :=
  match k with
  | .rlc | .rl | .sla => v.getLsbD 7
  | .rrc | .rr | .sra | .srl => v.getLsbD 0
  | .swap => false

/-- `w` is the result of `Rot(k, v, cin)`. -/
def IsRot (k : RotOp) (v : Byte) (cin : Bool) (w : Byte) : Prop := ∀ i, i < 8 → w.getLsbD i = rotBit k v cin i

/-- `w` is `v` with bit `b` set to `x`. -/
def IsBitSet (b : Fin 8) (x : Bool) (v w : Byte) : Prop :=
  ∀ i, i < 8 → w.getLsbD i = if i = b.val then x else v.getLsbD i

/-- A byte of two decimal digits. -/
def IsBcd (v : Byte) : Prop := v.toNat / 16 ≤ 9 ∧ v.toNat % 16 ≤ 9

/-- The number that two decimal digits write. -/
def bcdValue (v : Byte) : Nat := v.toNat / 16 * 10 + v.toNat % 16

/-! ### Stores -/

/-- An address whose writes reach a memory or nothing: VRAM, external RAM, WRAM and its echo, OAM, the unusable range,
HRAM and IE (20_memory.md R80). -/
def plainAddr (a : Word) : Prop := 0x8000 ≤ a.toNat ∧ ¬ (0xFF00 ≤ a.toNat ∧ a.toNat ≤ 0xFF7F)

/-- An address of the memories that never block: WRAM and its echo, HRAM and IE. -/
def ramAddr (a : Word) : Prop := (0xC000 ≤ a.toNat ∧ a.toNat ≤ 0xFDFF) ∨ 0xFF80 ≤ a.toNat

/-- Two addresses of one stored byte: the same address, an echo address and its WRAM address (20_memory.md R82), or two
external-RAM addresses with one byte index (R123). -/
def State.mirrors (s : State) (a b : Word) : Prop :=
  a = b
    ∨ (0xC000 ≤ a.toNat ∧ a.toNat ≤ 0xFDFF ∧ 0xC000 ≤ b.toNat ∧ b.toNat ≤ 0xFDFF
        ∧ (a.toNat - 0xC000) % 0x2000 = (b.toNat - 0xC000) % 0x2000)
    ∨ (0xA000 ≤ a.toNat ∧ a.toNat ≤ 0xBFFF ∧ 0xA000 ≤ b.toNat ∧ b.toNat ≤ 0xBFFF
        ∧ (if s.bank.mbc = .mbc2 then (a.toNat - 0xA000) % 512 = (b.toNat - 0xA000) % 512
            else s.bank.ramIndex (a.toNat - 0xA000) = s.bank.ramIndex (b.toNat - 0xA000)))

/-- What no CPU write changes outside the register file: the CPU control state, the cycle counter, the fixed part and
the host's key masks. -/
def KeepsControl (s t : State) : Prop :=
  t.ctl = s.ctl ∧ t.cycles = s.cycles ∧ t.fixed = s.fixed ∧ t.joy.buttons = s.joy.buttons ∧ t.joy.dirs = s.joy.dirs

/-- The devices and their registers. -/
def KeepsDevices (s t : State) : Prop :=
  t.timer = s.timer ∧ t.joy = s.joy ∧ t.ser = s.ser ∧ t.pic = s.pic ∧ t.snd = s.snd ∧ t.bootOff = s.bootOff

/-- `t` is `s` after a store of the byte `v` at `a`, the register file apart: what the store does and what it leaves
alone, by the region of `a` (20_memory.md R91). Every byte outside the stored one (and its mirrors) reads as before,
except that a mapper command selects other banks, and a store to an I/O register has that register's effects and changes no
byte of any memory but wave RAM's or, by DMA, OAM's. -/
structure Stores (s t : State) (a : Word) (v : Byte) : Prop where
  write : { t with regs := s.regs } = s.busWrite a v
  control : KeepsControl s t
  readBack : s.MemOk → ramAddr a → t.busRead a = v
  others : plainAddr a → KeepsDevices s t ∧ t.bank = s.bank ∧ t.irq.iflag = s.irq.iflag
    ∧ ∀ b, ¬ s.mirrors a b → t.busRead b = s.busRead b
  command : a.toNat ≤ 0x7FFF → t = { s with regs := t.regs, bank := t.bank }
  io : 0xFF00 ≤ a.toNat → a.toNat ≤ 0xFF7F → t.bank = s.bank ∧ t.irq.ie = s.irq.ie
    ∧ t.mem = { s.mem with oam := t.mem.oam, wave := t.mem.wave }
    ∧ (a.toNat ≠ 0xFF46 → t.mem.oam = s.mem.oam)
    ∧ (¬ (0xFF30 ≤ a.toNat ∧ a.toNat ≤ 0xFF3F) → t.mem.wave = s.mem.wave)

/-- `t` is `s` after a store of two bytes: `v1` at `a1`, then `v2` at `a2`. -/
def StoresTwo (s t : State) (a1 : Word) (v1 : Byte) (a2 : Word) (v2 : Byte) : Prop :=
  ∃ u, u.regs = s.regs ∧ Stores s u a1 v1 ∧ Stores u t a2 v2

/-- The form stores the byte `v` at `a` and changes no register and no flag. -/
def StoresByte (i : Instr) (bytes : List Byte) (n : Nat) (a : Word) (v : Byte) (s : State) : Prop :=
  Coded i bytes n s ∧ ∃ t, exec i s = .next t ∧ t.regs = s.regs ∧ Stores s t a v

/-- `t` is `s` after `Push16(v)` (00_scope.md R15): the high byte at SP - 1, then the low byte at SP - 2, with PC as
`pc` says. -/
def Pushes (s t : State) (v pc : Word) : Prop :=
  t.regs = { s.regs with sp := s.regs.sp - 2, pc := pc }
    ∧ StoresTwo s t (s.regs.sp - 1) v.hi (s.regs.sp - 2) v.lo

/-- The word that `Pop16()` reads (R15): the low byte at SP, the high byte at SP + 1. -/
def State.topWord (s : State) : Word := Word.ofBytes (s.busRead (s.regs.sp + 1)) (s.busRead s.regs.sp)

/-! ### Steps -/

/-- The next step is an instruction step (60_exceptions.md R500): not locked, no dispatch, and running or woken. -/
def State.runsInstr (s : State) : Prop :=
  s.ctl.locked = false ∧ ¬ (s.pending ≠ 0 ∧ s.ctl.ime = true)
    ∧ (s.pending ≠ 0 ∨ (s.ctl.halted = false ∧ s.ctl.stopped = false))

/-- The next step fetches and runs `i`, in the ordinary way: no byte is repeated. -/
def State.fetches (s : State) (i : Instr) : Prop :=
  s.runsInstr ∧ s.ctl.haltbugPending = false
    ∧ ∃ rest, decode [s.busRead s.regs.pc, s.busRead (s.regs.pc + 1), s.busRead (s.regs.pc + 2)] = .ok (i, rest)

/-- The state with `halted` and `stopped` cleared (60_exceptions.md R501). -/
def State.awake (s : State) : State := { s with ctl := { s.ctl with halted := false, stopped := false } }

end Sys2Proof.Machine
end

