-- ==== Sys2Proof/Certificates/Slice0/Obligations.lean ====
section
/-! DEFINITION. The statements for the provers, one definition per obligation of OBLIGATIONS.json, in its order. -/

open Sys2Proof Sys2Proof.Machine

/-! ### Encoding -/

/-- Decoding an instruction's encoding, with any bytes after it, gives that instruction and those bytes
(30_encoding.md R160-R173): no operand bit of any instruction is dropped. `PREFIX CB` is excluded as a term that is no
instruction of its own (R163); its words are those of the 22 CB rows, which are included. -/
def Obligations.DecodeOfEncode : Prop :=
  ∀ (i : Instr) (rest : List Byte), i.wellFormed = true → decode (encode i ++ rest) = .ok (i, rest)

/-- Encoding what the decoder reads gives back the bytes it consumed (R160-R173): every word has one meaning, and the decoder
answers only instructions of the machine. -/
def Obligations.EncodeOfDecode : Prop :=
  ∀ (l rest : List Byte) (i : Instr), decode l = .ok (i, rest) → i.wellFormed = true ∧ encode i ++ rest = l

/-- The opcode map by the fields x, y, z, p and q of the opcode byte (R161-R163, R167-R169), for every opcode: the bytes of
every instruction, from those fields. The eleven illegal opcodes are the bytes that R171 lists. -/
def Obligations.OpcodeMapByFields : Prop :=
  (∀ (r q : Reg8), encode (.ldRegReg r q) = [fieldByte 1 r.code q.code])
    ∧ (∀ r : Reg8, encode (.ldRegAtHL r) = [fieldByte 1 r.code 6] ∧ encode (.ldAtHLReg r) = [fieldByte 1 6 r.code]
        ∧ encode (.incReg r) = [fieldByte 0 r.code 4] ∧ encode (.decReg r) = [fieldByte 0 r.code 5])
    ∧ (∀ (r : Reg8) (n : Byte), encode (.ldRegN r n) = [fieldByte 0 r.code 6, n])
    ∧ encode .inc_atHL = [fieldByte 0 6 4] ∧ encode .dec_atHL = [fieldByte 0 6 5]
    ∧ (∀ n : Byte, encode (.ld_atHL_n n) = [fieldByte 0 6 6, n])
    ∧ encode .halt = [fieldByte 1 6 6]
    ∧ (∀ (op : AluOp) (r : Reg8), encode (.aluReg op r) = [fieldByte 2 op.code r.code])
    ∧ (∀ op : AluOp, encode (.aluAtHL op) = [fieldByte 2 op.code 6])
    ∧ (∀ (op : AluOp) (n : Byte), encode (.aluN op n) = [fieldByte 3 op.code 6, n])
    ∧ (∀ (p : Reg16) (nn : Word), encode (.ldPairNN p nn) = [fieldByte 0 (2 * p.code) 1, nn.lo, nn.hi])
    ∧ (∀ p : Reg16, encode (.addHLPair p) = [fieldByte 0 (2 * p.code + 1) 1]
        ∧ encode (.incPair p) = [fieldByte 0 (2 * p.code) 3] ∧ encode (.decPair p) = [fieldByte 0 (2 * p.code + 1) 3])
    ∧ encode .ld_atBC_a = [fieldByte 0 0 2] ∧ encode .ld_atDE_a = [fieldByte 0 2 2]
    ∧ encode .ld_atHLinc_a = [fieldByte 0 4 2] ∧ encode .ld_atHLdec_a = [fieldByte 0 6 2]
    ∧ encode .ld_a_atBC = [fieldByte 0 1 2] ∧ encode .ld_a_atDE = [fieldByte 0 3 2]
    ∧ encode .ld_a_atHLinc = [fieldByte 0 5 2] ∧ encode .ld_a_atHLdec = [fieldByte 0 7 2]
    ∧ encode .nop = [fieldByte 0 0 0]
    ∧ (∀ nn : Word, encode (.ld_atNN_sp nn) = [fieldByte 0 1 0, nn.lo, nn.hi])
    ∧ (∀ v : Byte, encode (.stop v) = [fieldByte 0 2 0, v] ∧ encode (.jr_e v) = [fieldByte 0 3 0, v])
    ∧ (∀ (cc : Cond) (e : Byte), encode (.jrCond cc e) = [fieldByte 0 (cc.code + 4) 0, e])
    ∧ encode .rlca = [fieldByte 0 0 7] ∧ encode .rrca = [fieldByte 0 1 7] ∧ encode .rla = [fieldByte 0 2 7]
    ∧ encode .rra = [fieldByte 0 3 7] ∧ encode .daa = [fieldByte 0 4 7] ∧ encode .cpl = [fieldByte 0 5 7]
    ∧ encode .scf = [fieldByte 0 6 7] ∧ encode .ccf = [fieldByte 0 7 7]
    ∧ (∀ cc : Cond, encode (.retCond cc) = [fieldByte 3 cc.code 0])
    ∧ (∀ v : Byte, encode (.ldh_atN_a v) = [fieldByte 3 4 0, v] ∧ encode (.add_sp_e v) = [fieldByte 3 5 0, v]
        ∧ encode (.ldh_a_atN v) = [fieldByte 3 6 0, v] ∧ encode (.ld_hl_spe v) = [fieldByte 3 7 0, v])
    ∧ (∀ p : StackReg, encode (.pop p) = [fieldByte 3 (2 * p.code) 1] ∧ encode (.push p) = [fieldByte 3 (2 * p.code) 5])
    ∧ encode .ret = [fieldByte 3 1 1] ∧ encode .reti = [fieldByte 3 3 1] ∧ encode .jp_hl = [fieldByte 3 5 1]
    ∧ encode .ld_sp_hl = [fieldByte 3 7 1]
    ∧ (∀ (cc : Cond) (nn : Word), encode (.jpCond cc nn) = [fieldByte 3 cc.code 2, nn.lo, nn.hi]
        ∧ encode (.callCond cc nn) = [fieldByte 3 cc.code 4, nn.lo, nn.hi])
    ∧ encode .ld_atC_a = [fieldByte 3 4 2] ∧ encode .ld_a_atC = [fieldByte 3 6 2]
    ∧ (∀ nn : Word, encode (.ld_atNN_a nn) = [fieldByte 3 5 2, nn.lo, nn.hi]
        ∧ encode (.ld_a_atNN nn) = [fieldByte 3 7 2, nn.lo, nn.hi]
        ∧ encode (.jp_nn nn) = [fieldByte 3 0 3, nn.lo, nn.hi] ∧ encode (.call_nn nn) = [fieldByte 3 1 5, nn.lo, nn.hi])
    ∧ encode .di = [fieldByte 3 6 3] ∧ encode .ei = [fieldByte 3 7 3]
    ∧ (∀ y : Fin 8, encode (.rst y) = [fieldByte 3 y.val 7])
    ∧ Instr.illegals.map encode
        = [[0xD3], [0xDB], [0xDD], [0xE3], [0xE4], [0xEB], [0xEC], [0xED], [0xF4], [0xFC], [0xFD]]
    ∧ (∀ (k : RotOp) (r : Reg8), encode (.rotReg k r) = [0xCB, fieldByte 0 k.code r.code])
    ∧ (∀ k : RotOp, encode (.rotAtHL k) = [0xCB, fieldByte 0 k.code 6])
    ∧ (∀ (op : BitOp) (b : Fin 8) (r : Reg8), encode (.bitReg op b r) = [0xCB, fieldByte op.code b.val r.code])
    ∧ (∀ (op : BitOp) (b : Fin 8), encode (.bitAtHL op b) = [0xCB, fieldByte op.code b.val 6])

/-- Words written out from the spec's encodings, one or two of each family, decode to the instructions they stand for
(40_loads_8bit.md to 46_system.md). -/
def Obligations.SanityWords : Prop :=
  decode [0x3E, 0x5A] = .ok (.ld_a_n 0x5A, [])
    ∧ decode [0xFA, 0x23, 0xC1] = .ok (.ld_a_atNN 0xC123, [])
    ∧ decode [0x31, 0xFE, 0xFF] = .ok (.ld_sp_nn 0xFFFE, [])
    ∧ decode [0xC5] = .ok (.push_bc, [])
    ∧ decode [0x8B] = .ok (.adc_a_e, [])
    ∧ decode [0x2D] = .ok (.dec_l, [])
    ∧ decode [0xE8, 0x02] = .ok (.add_sp_e 0x02, [])
    ∧ decode [0x09] = .ok (.add_hl_bc, [])
    ∧ decode [0xCB, 0x09] = .ok (.rrc_r .c, [])
    ∧ decode [0xCB, 0x9E] = .ok (.res_atHL 3, [])
    ∧ decode [0xCB, 0x7F] = .ok (.bit_r 7 .a, [])
    ∧ decode [0x38, 0xFC] = .ok (.jr_c_e 0xFC, [])
    ∧ decode [0xCD, 0x34, 0x12] = .ok (.call_nn 0x1234, [])
    ∧ decode [0xEF] = .ok (.rst_28, [])
    ∧ decode [0x10, 0x00] = .ok (.stop 0x00, [])
    ∧ decode [0x76] = .ok (.halt, [])
    ∧ decode [0xDB] = .ok (.illegal_db, [])

/-! ### Loads -/

/-- `LD r,r'`, `LD r,n` and `LD r,(HL)` (40_loads_8bit.md R200-R202): the value of the source is in `r`, and no other
register, no flag and nothing outside the register file changes. For all 49, 7 and 7 opcodes. -/
def Obligations.LoadRegister : Prop :=
  ∀ (s : State) (r q : Reg8) (n : Byte),
    (Coded (.ldRegReg r q) [fieldByte 1 r.code q.code] 1 s
      ∧ ∃ t, exec (.ldRegReg r q) s = .next t ∧ t.reg r = s.reg q ∧ KeepsFlags s t ∧ WritesOnly [r] s t)
    ∧ (Coded (.ldRegN r n) [fieldByte 0 r.code 6, n] 2 s
      ∧ ∃ t, exec (.ldRegN r n) s = .next t ∧ t.reg r = n ∧ KeepsFlags s t ∧ WritesOnly [r] s t)
    ∧ (Coded (.ldRegAtHL r) [fieldByte 1 r.code 6] 2 s
      ∧ ∃ t, exec (.ldRegAtHL r) s = .next t ∧ t.reg r = s.busRead s.hl ∧ KeepsFlags s t ∧ WritesOnly [r] s t)

/-- The loads of A from memory (40_loads_8bit.md R205, R206, R209, R211, R212, R216, R218). `LD A,(HL+)` and `LD A,(HL-)` read
at the old HL and then step HL, modulo 2^16. -/
def Obligations.LoadAccumulator : Prop :=
  ∀ (s : State) (n : Byte) (nn : Word),
    LoadsA .ld_a_atBC [0x0A] 2 s.bc s ∧ LoadsA .ld_a_atDE [0x1A] 2 s.de s
    ∧ LoadsA (.ld_a_atNN nn) [0xFA, nn.lo, nn.hi] 4 nn s
    ∧ LoadsA .ld_a_atC [0xF2] 2 (0xFF00 + zext16 s.regs.c) s
    ∧ LoadsA (.ldh_a_atN n) [0xF0, n] 3 (0xFF00 + zext16 n) s
    ∧ (Coded .ld_a_atHLinc [0x2A] 2 s ∧ ∃ t, exec .ld_a_atHLinc s = .next t ∧ t.reg .a = s.busRead s.hl
        ∧ t.hl = s.hl + 1 ∧ KeepsFlags s t ∧ WritesOnly [.a, .h, .l] s t)
    ∧ (Coded .ld_a_atHLdec [0x3A] 2 s ∧ ∃ t, exec .ld_a_atHLdec s = .next t ∧ t.reg .a = s.busRead s.hl
        ∧ t.hl = s.hl - 1 ∧ KeepsFlags s t ∧ WritesOnly [.a, .h, .l] s t)

/-- The byte stores (40_loads_8bit.md R203, R204, R207, R208, R210, R213, R214, R217, R219): the byte goes to the address that
the form gives, computed from the registers before the instruction, with the effects and the frame of `Stores`.
`LD (HL+),A` and `LD (HL-),A` write at the old HL and then step HL. No flag changes. -/
def Obligations.StoreByte : Prop :=
  ∀ (s : State) (r : Reg8) (n : Byte) (nn : Word),
    StoresByte (.ldAtHLReg r) [fieldByte 1 6 r.code] 2 s.hl (s.reg r) s
    ∧ StoresByte (.ld_atHL_n n) [0x36, n] 3 s.hl n s
    ∧ StoresByte .ld_atBC_a [0x02] 2 s.bc (s.reg .a) s ∧ StoresByte .ld_atDE_a [0x12] 2 s.de (s.reg .a) s
    ∧ StoresByte (.ld_atNN_a nn) [0xEA, nn.lo, nn.hi] 4 nn (s.reg .a) s
    ∧ StoresByte .ld_atC_a [0xE2] 2 (0xFF00 + zext16 s.regs.c) (s.reg .a) s
    ∧ StoresByte (.ldh_atN_a n) [0xE0, n] 3 (0xFF00 + zext16 n) (s.reg .a) s
    ∧ (Coded .ld_atHLinc_a [0x22] 2 s ∧ ∃ t, exec .ld_atHLinc_a s = .next t
        ∧ t.regs = (s.setHl (s.hl + 1)).regs ∧ Stores s t s.hl (s.reg .a))
    ∧ (Coded .ld_atHLdec_a [0x32] 2 s ∧ ∃ t, exec .ld_atHLdec_a s = .next t
        ∧ t.regs = (s.setHl (s.hl - 1)).regs ∧ Stores s t s.hl (s.reg .a))

/-- `LD rr,nn`, `LD SP,HL`, `LD HL,SP+e` and `ADD SP,e` (41_loads_16bit.md R250, R252, R253, 43_alu_16bit.md R333): the
16-bit result, and for the last two the flags from the unsigned addition of SP's low byte and the raw byte. -/
def Obligations.LoadPair : Prop :=
  ∀ (s : State) (p : Reg16) (nn : Word) (e : Byte),
    (Coded (.ldPairNN p nn) [fieldByte 0 (2 * p.code) 1, nn.lo, nn.hi] 3 s
      ∧ ∃ t, exec (.ldPairNN p nn) s = .next t ∧ t.pair p = nn ∧ KeepsFlags s t ∧ WritesOnlyPair p s t)
    ∧ (Coded .ld_sp_hl [0xF9] 2 s
      ∧ ∃ t, exec .ld_sp_hl s = .next t ∧ t.regs.sp = s.hl ∧ KeepsFlags s t ∧ WritesOnlyPair .sp s t)
    ∧ (Coded (.ld_hl_spe e) [0xF8, e] 3 s
      ∧ ∃ t, exec (.ld_hl_spe e) s = .next t ∧ t.hl = s.regs.sp + sext16 e
        ∧ FlagsAre t false false (decide (s.regs.sp.toNat % 16 + e.toNat % 16 > 0xF))
            (decide (s.regs.sp.toNat % 256 + e.toNat > 0xFF))
        ∧ WritesOnlyPair .hl s t)
    ∧ (Coded (.add_sp_e e) [0xE8, e] 4 s
      ∧ ∃ t, exec (.add_sp_e e) s = .next t ∧ t.regs.sp = s.regs.sp + sext16 e
        ∧ FlagsAre t false false (decide (s.regs.sp.toNat % 16 + e.toNat % 16 > 0xF))
            (decide (s.regs.sp.toNat % 256 + e.toNat > 0xFF))
        ∧ WritesOnlyPair .sp s t)

/-- `LD (nn),SP` and `PUSH qq` (41_loads_16bit.md R251, R254): the two byte stores, in the order the rules give. PUSH AF
pushes F with its low nibble 0. No flag changes. -/
def Obligations.StoreWord : Prop :=
  ∀ (s : State) (q : StackReg) (nn : Word),
    (Coded (.ld_atNN_sp nn) [0x08, nn.lo, nn.hi] 5 s
      ∧ ∃ t, exec (.ld_atNN_sp nn) s = .next t ∧ t.regs = s.regs
        ∧ StoresTwo s t nn s.regs.sp.lo (nn + 1) s.regs.sp.hi)
    ∧ (Coded (.push q) [fieldByte 3 (2 * q.code) 5] 4 s
      ∧ ∃ t, exec (.push q) s = .next t ∧ Pushes s t (s.stackReg q) s.regs.pc)
    ∧ ((s.stackReg .af).hi = s.regs.a ∧ (s.stackReg .af).lo.toNat % 16 = 0
      ∧ (s.stackReg .af).lo.getLsbD 7 = s.regs.fz ∧ (s.stackReg .af).lo.getLsbD 6 = s.regs.fn
      ∧ (s.stackReg .af).lo.getLsbD 5 = s.regs.fh ∧ (s.stackReg .af).lo.getLsbD 4 = s.regs.fc)

/-- `POP rr` and `POP AF` (41_loads_16bit.md R255, R256): the word at SP, low byte first, is in the pair and SP is past it. POP
AF takes the four flags from bits 7-4 of the low byte and discards bits 3-0; the others change no flag. -/
def Obligations.PopPair : Prop :=
  ∀ (s : State) (q : StackReg),
    Coded (.pop q) [fieldByte 3 (2 * q.code) 1] 3 s
    ∧ ∃ t, exec (.pop q) s = .next t ∧ t.regs.sp = s.regs.sp + 2
      ∧ (q ≠ .af → t.stackReg q = s.topWord ∧ KeepsFlags s t)
      ∧ (q = .af → t.reg .a = s.topWord.hi
          ∧ FlagsAre t (s.topWord.getLsbD 7) (s.topWord.getLsbD 6) (s.topWord.getLsbD 5) (s.topWord.getLsbD 4))
      ∧ KeepsRegs q.halves s t ∧ KeepsPc s t ∧ KeepsAllButRegs s t

/-- A PUSH and then a POP into any pair moves the word and leaves SP where it was, when the two stack bytes lie in memory
that never blocks (00_scope.md R15). Into AF this holds for the words whose bits 3-0 are 0. -/
def Obligations.PushThenPop : Prop :=
  ∀ (s : State) (q p : StackReg), s.MemOk → ramAddr (s.regs.sp - 1) → ramAddr (s.regs.sp - 2) →
    (p = .af → (s.stackReg q).toNat % 16 = 0) →
    ∃ t u, exec (.push q) s = .next t ∧ exec (.pop p) t = .next u
      ∧ u.stackReg p = s.stackReg q ∧ u.regs.sp = s.regs.sp

/-! ### 8-bit arithmetic and logic -/

/-- `ADD` and `ADC` with a register, the byte at HL and an immediate (42_alu_8bit.md R280-R286): the exact sum, cut to eight
bits, with C and H as the carries out of bits 7 and 3. -/
def Obligations.AddToA : Prop :=
  ∀ (s : State) (op : AluOp) (r : Reg8) (n : Byte), op = .add ∨ op = .adc →
    (Coded (.aluReg op r) [fieldByte 2 op.code r.code] 1 s
      ∧ ∃ t, exec (.aluReg op r) s = .next t ∧ AluEffect op s t (s.reg r))
    ∧ (Coded (.aluAtHL op) [fieldByte 2 op.code 6] 2 s
      ∧ ∃ t, exec (.aluAtHL op) s = .next t ∧ AluEffect op s t (s.busRead s.hl))
    ∧ (Coded (.aluN op n) [fieldByte 3 op.code 6, n] 2 s
      ∧ ∃ t, exec (.aluN op n) s = .next t ∧ AluEffect op s t n)

/-- `SUB`, `SBC` and `CP` with a register, the byte at HL and an immediate (42_alu_8bit.md R287-R292, R302-R304): the exact
difference modulo 256 with the two borrows; CP writes the flags and leaves A. -/
def Obligations.SubtractFromA : Prop :=
  ∀ (s : State) (op : AluOp) (r : Reg8) (n : Byte), op = .sub ∨ op = .sbc ∨ op = .cp →
    (Coded (.aluReg op r) [fieldByte 2 op.code r.code] 1 s
      ∧ ∃ t, exec (.aluReg op r) s = .next t ∧ AluEffect op s t (s.reg r))
    ∧ (Coded (.aluAtHL op) [fieldByte 2 op.code 6] 2 s
      ∧ ∃ t, exec (.aluAtHL op) s = .next t ∧ AluEffect op s t (s.busRead s.hl))
    ∧ (Coded (.aluN op n) [fieldByte 3 op.code 6, n] 2 s
      ∧ ∃ t, exec (.aluN op n) s = .next t ∧ AluEffect op s t n)

/-- `AND`, `XOR` and `OR` with a register, the byte at HL and an immediate (42_alu_8bit.md R293-R301). -/
def Obligations.LogicOnA : Prop :=
  ∀ (s : State) (op : AluOp) (r : Reg8) (n : Byte), op = .and ∨ op = .xor ∨ op = .or →
    (Coded (.aluReg op r) [fieldByte 2 op.code r.code] 1 s
      ∧ ∃ t, exec (.aluReg op r) s = .next t ∧ AluEffect op s t (s.reg r))
    ∧ (Coded (.aluAtHL op) [fieldByte 2 op.code 6] 2 s
      ∧ ∃ t, exec (.aluAtHL op) s = .next t ∧ AluEffect op s t (s.busRead s.hl))
    ∧ (Coded (.aluN op n) [fieldByte 3 op.code 6, n] 2 s
      ∧ ∃ t, exec (.aluN op n) s = .next t ∧ AluEffect op s t n)

/-- `INC` and `DEC` of a register and of the byte at HL (42_alu_8bit.md R305-R308): one more or less modulo 256, C unchanged.
The forms on memory read and store in one instruction, with the store's own effects. -/
def Obligations.IncDecByte : Prop :=
  ∀ (s : State) (r : Reg8),
    (Coded (.incReg r) [fieldByte 0 r.code 4] 1 s
      ∧ ∃ t, exec (.incReg r) s = .next t ∧ (t.reg r).toNat = ((s.reg r).toNat + 1) % 256
        ∧ FlagsAre t (decide (t.reg r = 0)) false (decide ((s.reg r).toNat % 16 = 15)) s.regs.fc ∧ WritesOnly [r] s t)
    ∧ (Coded (.decReg r) [fieldByte 0 r.code 5] 1 s
      ∧ ∃ t, exec (.decReg r) s = .next t ∧ (t.reg r).toNat = ((s.reg r).toNat + 255) % 256
        ∧ FlagsAre t (decide (t.reg r = 0)) true (decide ((s.reg r).toNat % 16 = 0)) s.regs.fc ∧ WritesOnly [r] s t)
    ∧ (Coded .inc_atHL [0x34] 3 s
      ∧ ∃ t, exec .inc_atHL s = .next t ∧ Stores s t s.hl (s.busRead s.hl + 1)
        ∧ t.regs = { s.regs with fz := decide (s.busRead s.hl + 1 = 0), fn := false
                                 fh := decide ((s.busRead s.hl).toNat % 16 = 15) })
    ∧ (Coded .dec_atHL [0x35] 3 s
      ∧ ∃ t, exec .dec_atHL s = .next t ∧ Stores s t s.hl (s.busRead s.hl - 1)
        ∧ t.regs = { s.regs with fz := decide (s.busRead s.hl - 1 = 0), fn := true
                                 fh := decide ((s.busRead s.hl).toNat % 16 = 0) })

/-- The accumulator and flag operations (42_alu_8bit.md R309-R312). DAA: after an addition C and the test of A against 0x99 decide on
0x60, H and the low digit on 0x06; after a subtraction C and H alone decide; modulo 256, N unchanged and H cleared. CPL
complements A. SCF sets and CCF complements C. -/
def Obligations.AccumulatorAndFlags : Prop :=
  ∀ s : State,
    (Coded .daa [0x27] 1 s ∧ ∃ t, exec .daa s = .next t
      ∧ (s.regs.fn = false →
          t.regs.fc = (s.regs.fc || decide (0x99 < s.regs.a.toNat))
          ∧ t.reg .a = s.reg .a + (if s.regs.fc = true ∨ 0x99 < s.regs.a.toNat then 0x60 else 0)
              + (if s.regs.fh = true ∨ 9 < s.regs.a.toNat % 16 then 0x06 else 0))
      ∧ (s.regs.fn = true →
          t.regs.fc = s.regs.fc
          ∧ t.reg .a = s.reg .a - (if s.regs.fc = true then 0x60 else 0) - (if s.regs.fh = true then 0x06 else 0))
      ∧ t.regs.fz = decide (t.reg .a = 0) ∧ t.regs.fh = false ∧ t.regs.fn = s.regs.fn ∧ WritesOnly [.a] s t)
    ∧ (Coded .cpl [0x2F] 1 s ∧ ∃ t, exec .cpl s = .next t ∧ (∀ i, i < 8 → (t.reg .a).getLsbD i = !(s.reg .a).getLsbD i)
      ∧ FlagsAre t s.regs.fz true true s.regs.fc ∧ WritesOnly [.a] s t)
    ∧ (Coded .scf [0x37] 1 s ∧ ∃ t, exec .scf s = .next t ∧ FlagsAre t s.regs.fz false false true ∧ WritesOnly [] s t)
    ∧ (Coded .ccf [0x3F] 1 s ∧ ∃ t, exec .ccf s = .next t ∧ FlagsAre t s.regs.fz false false (!s.regs.fc)
      ∧ WritesOnly [] s t)

/-- What DAA is for (R309): on two-digit decimal bytes, `ADC A,n` and then `DAA` give the decimal sum with the carry flag as
its hundred, and `SBC A,n` and then `DAA` the decimal difference with the carry flag as the borrow. -/
def Obligations.DecimalSum : Prop :=
  ∀ (s : State) (n : Byte), IsBcd (s.reg .a) → IsBcd n →
    (∃ t u, exec (.adc_a_n n) s = .next t ∧ exec .daa t = .next u ∧ IsBcd (u.reg .a)
      ∧ bcdValue (u.reg .a) + 100 * u.regs.fc.toNat = bcdValue (s.reg .a) + bcdValue n + s.regs.fc.toNat)
    ∧ (∃ t u, exec (.sbc_a_n n) s = .next t ∧ exec .daa t = .next u ∧ IsBcd (u.reg .a)
      ∧ bcdValue (u.reg .a) + bcdValue n + s.regs.fc.toNat = bcdValue (s.reg .a) + 100 * u.regs.fc.toNat)

/-! ### 16-bit arithmetic -/

/-- `ADD HL,rr`, `INC rr` and `DEC rr` (43_alu_16bit.md R330-R332): the exact sum cut to 16 bits with the carries out of
bits 15 and 11 and Z unchanged; one more or less modulo 2^16 with no flag changed. -/
def Obligations.PairArithmetic : Prop :=
  ∀ (s : State) (p : Reg16),
    (Coded (.addHLPair p) [fieldByte 0 (2 * p.code + 1) 1] 2 s
      ∧ ∃ t, exec (.addHLPair p) s = .next t
        ∧ t.hl.toNat + 0x10000 * t.regs.fc.toNat = s.hl.toNat + (s.pair p).toNat
        ∧ t.hl.toNat % 0x1000 + 0x1000 * t.regs.fh.toNat = s.hl.toNat % 0x1000 + (s.pair p).toNat % 0x1000
        ∧ t.regs.fz = s.regs.fz ∧ t.regs.fn = false ∧ WritesOnlyPair .hl s t)
    ∧ (Coded (.incPair p) [fieldByte 0 (2 * p.code) 3] 2 s
      ∧ ∃ t, exec (.incPair p) s = .next t ∧ (t.pair p).toNat = ((s.pair p).toNat + 1) % 0x10000
        ∧ KeepsFlags s t ∧ WritesOnlyPair p s t)
    ∧ (Coded (.decPair p) [fieldByte 0 (2 * p.code + 1) 3] 2 s
      ∧ ∃ t, exec (.decPair p) s = .next t ∧ (t.pair p).toNat = ((s.pair p).toNat + 0xFFFF) % 0x10000
        ∧ KeepsFlags s t ∧ WritesOnlyPair p s t)

/-! ### Rotates, shifts and bits -/

/-- `RLCA`, `RRCA`, `RLA` and `RRA` (44_rotate_shift_bit.md R351-R354): A is rotated, C is the bit that leaves, and Z is
cleared whatever the result. -/
def Obligations.RotateA : Prop :=
  ∀ (s : State) (i : Instr) (b : Byte) (k : RotOp),
    (i, b, k) ∈ [(Instr.rlca, 0x07, RotOp.rlc), (.rrca, 0x0F, .rrc), (.rla, 0x17, .rl), (.rra, 0x1F, .rr)] →
    Coded i [b] 1 s
    ∧ ∃ t, exec i s = .next t ∧ IsRot k (s.reg .a) s.regs.fc (t.reg .a)
      ∧ FlagsAre t false false false (rotCarry k (s.reg .a)) ∧ WritesOnly [.a] s t

/-- The CB rotates and shifts on a register (44_rotate_shift_bit.md R350, R355, R357, R359, R361, R363, R365, R367, R369), for
the eight operations and the seven registers: every bit of the result, C the bit that leaves (0 for SWAP), Z from the
result. -/
def Obligations.RotateRegister : Prop :=
  ∀ (s : State) (k : RotOp) (r : Reg8),
    Coded (.rotReg k r) [0xCB, fieldByte 0 k.code r.code] 2 s
    ∧ ∃ t, exec (.rotReg k r) s = .next t ∧ IsRot k (s.reg r) s.regs.fc (t.reg r)
      ∧ FlagsAre t (decide (t.reg r = 0)) false false (rotCarry k (s.reg r)) ∧ WritesOnly [r] s t

/-- The CB rotates and shifts on the byte at HL (44_rotate_shift_bit.md R356, R358, R360, R362, R364, R366, R368, R370): the
byte is read, rotated and stored back in one instruction. -/
def Obligations.RotateMemory : Prop :=
  ∀ (s : State) (k : RotOp),
    Coded (.rotAtHL k) [0xCB, fieldByte 0 k.code 6] 4 s
    ∧ ∃ t w, exec (.rotAtHL k) s = .next t ∧ IsRot k (s.busRead s.hl) s.regs.fc w ∧ Stores s t s.hl w
      ∧ t.regs = { s.regs with fz := decide (w = 0), fn := false, fh := false
                               fc := rotCarry k (s.busRead s.hl) }

/-- `BIT`, `RES` and `SET` on a register and on the byte at HL (44_rotate_shift_bit.md R371-R376), for every bit: BIT tests it
and writes nothing but Z, N and H; RES and SET change that bit alone and no flag. -/
def Obligations.BitOperations : Prop :=
  ∀ (s : State) (b : Fin 8) (r : Reg8),
    (Coded (.bit_r b r) [0xCB, fieldByte 1 b.val r.code] 2 s
      ∧ ∃ t, exec (.bit_r b r) s = .next t ∧ FlagsAre t (!(s.reg r).getLsbD b.val) false true s.regs.fc
        ∧ WritesOnly [] s t)
    ∧ (Coded (.bit_atHL b) [0xCB, fieldByte 1 b.val 6] 3 s
      ∧ ∃ t, exec (.bit_atHL b) s = .next t ∧ FlagsAre t (!(s.busRead s.hl).getLsbD b.val) false true s.regs.fc
        ∧ WritesOnly [] s t)
    ∧ (Coded (.res_r b r) [0xCB, fieldByte 2 b.val r.code] 2 s
      ∧ ∃ t, exec (.res_r b r) s = .next t ∧ IsBitSet b false (s.reg r) (t.reg r) ∧ KeepsFlags s t ∧ WritesOnly [r] s t)
    ∧ (Coded (.set_r b r) [0xCB, fieldByte 3 b.val r.code] 2 s
      ∧ ∃ t, exec (.set_r b r) s = .next t ∧ IsBitSet b true (s.reg r) (t.reg r) ∧ KeepsFlags s t ∧ WritesOnly [r] s t)
    ∧ (Coded (.res_atHL b) [0xCB, fieldByte 2 b.val 6] 4 s
      ∧ ∃ t w, exec (.res_atHL b) s = .next t ∧ IsBitSet b false (s.busRead s.hl) w ∧ t.regs = s.regs
        ∧ Stores s t s.hl w)
    ∧ (Coded (.set_atHL b) [0xCB, fieldByte 3 b.val 6] 4 s
      ∧ ∃ t w, exec (.set_atHL b) s = .next t ∧ IsBitSet b true (s.busRead s.hl) w ∧ t.regs = s.regs
        ∧ Stores s t s.hl w)

/-! ### Control transfer -/

/-- The jumps (45_control_flow.md R400-R405): the target, taken when the condition on Z or C holds, else PC stays past the
instruction; the duration depends on it. Nothing but PC changes. -/
def Obligations.Jumps : Prop :=
  ∀ (s : State) (cc : Cond) (nn : Word) (e : Byte),
    (s.cond cc = match cc with | .nz => !s.regs.fz | .z => s.regs.fz | .nc => !s.regs.fc | .c => s.regs.fc)
    ∧ (Coded (.jp_nn nn) [0xC3, nn.lo, nn.hi] 4 s ∧ exec (.jp_nn nn) s = .next (s.setPc nn))
    ∧ (Coded (.jpCond cc nn) [fieldByte 3 cc.code 2, nn.lo, nn.hi] (if s.cond cc then 4 else 3) s
      ∧ exec (.jpCond cc nn) s = .next (s.setPc (if s.cond cc then nn else s.regs.pc)))
    ∧ (Coded .jp_hl [0xE9] 1 s ∧ exec .jp_hl s = .next (s.setPc s.hl))
    ∧ (Coded (.jr_e e) [0x18, e] 3 s ∧ exec (.jr_e e) s = .next (s.setPc (s.regs.pc + sext16 e)))
    ∧ (Coded (.jrCond cc e) [fieldByte 0 (cc.code + 4) 0, e] (if s.cond cc then 3 else 2) s
      ∧ exec (.jrCond cc e) s = .next (s.setPc (if s.cond cc then s.regs.pc + sext16 e else s.regs.pc)))
    ∧ (sext16 e).toInt = e.toInt

/-- `CALL nn`, `CALL cc,nn` and `RST t` (45_control_flow.md R406, R407, R415): the address after the instruction is pushed and
PC goes to the target; a call not taken changes nothing. -/
def Obligations.Calls : Prop :=
  ∀ (s : State) (cc : Cond) (nn : Word) (y : Fin 8),
    (Coded (.call_nn nn) [0xCD, nn.lo, nn.hi] 6 s
      ∧ ∃ t, exec (.call_nn nn) s = .next t ∧ Pushes s t s.regs.pc nn)
    ∧ (Coded (.callCond cc nn) [fieldByte 3 cc.code 4, nn.lo, nn.hi] (if s.cond cc then 6 else 3) s
      ∧ ∃ t, exec (.callCond cc nn) s = .next t
        ∧ (s.cond cc = true → Pushes s t s.regs.pc nn) ∧ (s.cond cc = false → t = s))
    ∧ (Coded (.rst y) [fieldByte 3 y.val 7] 4 s
      ∧ ∃ t, exec (.rst y) s = .next t ∧ Pushes s t s.regs.pc (BitVec.ofNat 16 (8 * y.val)))

/-- `RET`, `RET cc` and `RETI` (45_control_flow.md R408, R409, R412): PC is the word at SP and SP is past it; RETI also sets IME
at once and clears the delayed enable. Nothing else changes, and a return not taken changes nothing. -/
def Obligations.Returns : Prop :=
  ∀ (s : State) (cc : Cond),
    let u : State := { s with regs := { s.regs with pc := s.topWord, sp := s.regs.sp + 2 } }
    (Coded .ret [0xC9] 4 s ∧ exec .ret s = .next u)
    ∧ (Coded (.retCond cc) [fieldByte 3 cc.code 0] (if s.cond cc then 5 else 2) s
      ∧ exec (.retCond cc) s = .next (if s.cond cc then u else s))
    ∧ (Coded .reti [0xD9] 4 s
      ∧ exec .reti s = .next { u with ctl := { s.ctl with ime := true, imeSched := false } })

/-! ### System instructions -/

/-- `NOP`, `DI`, `EI`, `STOP` and `HALT` (46_system.md R440-R444), what each does in its own step: NOP nothing; DI clears IME
and the delayed enable; EI arms the delayed enable; STOP sets `stopped` and `sys` to 0 whatever its second byte; HALT sets
`halted`, or with HALT_BUG, IME = 0 and an enabled interrupt pending `haltbug_pending` instead. -/
def Obligations.SystemControl : Prop :=
  ∀ (s : State) (z : Byte),
    (Coded .nop [0x00] 1 s ∧ exec .nop s = .next s)
    ∧ (Coded .di [0xF3] 1 s ∧ exec .di s = .next { s with ctl := { s.ctl with ime := false, imeSched := false } })
    ∧ (Coded .ei [0xFB] 1 s ∧ exec .ei s = .next { s with ctl := { s.ctl with imeSched := true } })
    ∧ (Coded (.stop z) [0x10, z] 1 s
      ∧ exec (.stop z) s
        = .next { s with ctl := { s.ctl with stopped := true }, timer := { s.timer with sys := 0 } })
    ∧ (Coded .halt [0x76] 1 s
      ∧ exec .halt s = .next { s with ctl :=
          if s.haltBug = true ∧ s.ctl.ime = false ∧ s.pending ≠ 0 then { s.ctl with haltbugPending := true }
          else { s.ctl with halted := true } })

/-- The eleven illegal opcodes (46_system.md R446, 30_encoding.md R171): each takes one M-cycle and locks the CPU, and nothing
else changes. From then on every step is one idle M-cycle that executes nothing, takes no interrupt and ends locked, for any
number of steps, while the devices advance; and no host action unlocks the CPU. -/
def Obligations.IllegalLocks : Prop :=
  (∀ (i : Instr) (s : State), i ∈ Instr.illegals →
      duration i s = 1 ∧ exec i s = .next { s with ctl := { s.ctl with locked := true } })
    ∧ Instr.illegals.map encode
        = [[0xD3], [0xDB], [0xDD], [0xE3], [0xE4], [0xEB], [0xEC], [0xED], [0xF4], [0xFC], [0xFD]]
    ∧ (∀ s : State, s.ctl.locked = true → step s = .next (s.advance 1) ∧ ∀ a, (s.hostAct a).ctl = s.ctl)
    ∧ ∀ (s : State) (n : Nat), s.ctl.locked = true →
        ∃ t : State, core.run n s = .next t ∧ t.ctl = s.ctl ∧ t.regs = s.regs ∧ t.mem = s.mem ∧ t.bank = s.bank
          ∧ t.cycles = s.cycles + n

/-- `PREFIX CB` (46_system.md R445): the byte after 0xCB selects the instruction, and running the term for the prefix row is
running that instruction, in the same time. Its own word is never decoded as the prefix row. -/
def Obligations.PrefixSelects : Prop :=
  ∀ (s : State) (op2 : Byte) (rest : List Byte),
    exec (.prefix_cb op2) s = exec (decodeCb op2) s ∧ duration (.prefix_cb op2) s = duration (decodeCb op2) s
    ∧ encode (.prefix_cb op2) = [0xCB, op2] ∧ decode (0xCB :: op2 :: rest) = .ok (decodeCb op2, rest)
    ∧ (∃ t, exec (.prefix_cb op2) s = .next t) ∧ (decodeCb op2).wellFormed = true

/-! ### Steps and interrupts -/

/-- A STEP RUNS THE DECODED INSTRUCTION (60_exceptions.md R500, 00_scope.md R15, 10_state.md R35): when the bytes at PC decode
to `i`, the step is `exec i` from the woken state with PC past the instruction, then the delayed enable of EI, then the
cycle counter and the devices by the instruction's duration (`State.advance`, of which TickOrderUnobservable says what it
is). -/
def Obligations.StepRunsDecodedInstruction : Prop :=
  ∀ (s : State) (i : Instr), s.fetches i →
    let u := s.wake.setPc (s.regs.pc + BitVec.ofNat 16 (encode i).length)
    i.wellFormed = true
    ∧ step s = match exec i u with
        | .next t => .next ((t.retireEi s.ctl.imeSched).advance (duration i u))
        | .fault r => .fault r
        | .refused r => .refused r

/-- The step after a HALT that did not halt (46_system.md R441, 10_state.md R45): with `haltbug_pending` set, the byte at PC is
read twice, as the opcode and once more as the next byte, so PC ends one byte earlier, and the flag is clear. -/
def Obligations.StepRepeatsByte : Prop :=
  ∀ (s : State) (i : Instr) (rest : List Byte), s.runsInstr → s.ctl.haltbugPending = true →
    decode [s.busRead s.regs.pc, s.busRead s.regs.pc, s.busRead (s.regs.pc + 1)] = .ok (i, rest) →
    let w := s.wake
    let u := ({ w with ctl := { w.ctl with haltbugPending := false } } : State).setPc
      (s.regs.pc + BitVec.ofNat 16 ((encode i).length - 1))
    step s = match exec i u with
      | .next t => .next ((t.retireEi s.ctl.imeSched).advance (duration i u))
      | .fault r => .fault r
      | .refused r => .refused r

/-- Waking and idling (60_exceptions.md R501, R590). With an enabled interrupt pending, a step of a CPU that is not locked is the step from
the state with `halted` and `stopped` cleared: with IME = 0 it fetches and executes an instruction, with no dispatch and no
idle cycle; with IME = 1 it dispatches. Locked, or halted or stopped with no enabled interrupt pending, the step is one M-cycle of
the devices, and every register, the control state and every memory survives it. -/
def Obligations.WakeAndIdle : Prop :=
  (∀ s : State, s.ctl.locked = false → s.pending ≠ 0 →
    step s = step s.awake
    ∧ (s.ctl.ime = false →
        step s = runDecoded s.ctl.imeSched s.awake.fetchInstr.1 s.awake.fetchInstr.2)
    ∧ (s.ctl.ime = true → step s = .next ((s.awake.dispatch s.pending).advance 5)))
  ∧ ∀ s : State, s.ctl.locked = true ∨ (s.pending = 0 ∧ (s.ctl.halted = true ∨ s.ctl.stopped = true)) →
    ∃ t, step s = .next t ∧ t = s.advance 1 ∧ t.cycles = s.cycles + 1
      ∧ t.regs = s.regs ∧ t.ctl = s.ctl ∧ t.mem = s.mem ∧ t.bank = s.bank ∧ t.irq.ie = s.irq.ie

/-- TAKING AN INTERRUPT (60_exceptions.md R510-R512): with IME set and an enabled interrupt pending, the step takes 5 M-cycles, the lowest
pending bit k is taken and its IF bit alone cleared, IME and the delayed enable are cleared, PC alone is saved, on the
stack, and PC is 0x40 + 8k. No other register and no flag changes. -/
def Obligations.InterruptDispatch : Prop :=
  ∀ s : State, s.ctl.locked = false → s.pending ≠ 0 → s.ctl.ime = true →
    ∃ (k : Nat) (t : State), k < 5 ∧ s.pending.getLsbD k = true ∧ (∀ j, j < k → s.pending.getLsbD j = false)
      ∧ step s = .next (t.advance 5)
      ∧ (let u : State :=
          { s with ctl := { s.ctl with ime := false, imeSched := false, halted := false, stopped := false }
                   irq := { s.irq with iflag := s.irq.iflag &&& ~~~ ((1 : BitVec 5) <<< k) } }
        Pushes u t s.regs.pc (BitVec.ofNat 16 (0x40 + 8 * k)))

/-- The delayed enable of EI (60_exceptions.md R503, 46_system.md R443, R444). An EI step that finds the delayed enable clear arms
it and leaves IME as it was: IME clear stays clear, so the next instruction always executes before any dispatch, and IME set
stays set. An instruction step that
finds it armed ends with IME set and the delay consumed, unless the instruction is DI, after which IME is clear. Without it,
only DI and RETI change IME. Idle steps keep the delay, and a dispatch clears both. -/
def Obligations.EiDelay : Prop :=
  ∀ (s t : State) (i : Instr), step s = .next t →
    (s.fetches .ei → s.ctl.imeSched = false → t.ctl.ime = s.ctl.ime ∧ t.ctl.imeSched = true)
    ∧ (s.fetches i → s.ctl.imeSched = true → t.ctl.ime = decide (i ≠ .di) ∧ t.ctl.imeSched = false)
    ∧ (s.fetches i → s.ctl.imeSched = false → i ≠ .ei →
        t.ctl.imeSched = false
          ∧ t.ctl.ime = (if i = .di then false else if i = .reti then true else s.ctl.ime))
    ∧ (s.ctl.locked = true ∨ (s.pending = 0 ∧ (s.ctl.halted = true ∨ s.ctl.stopped = true)) →
        t.ctl.ime = s.ctl.ime ∧ t.ctl.imeSched = s.ctl.imeSched)
    ∧ (s.ctl.locked = false → s.pending ≠ 0 → s.ctl.ime = true → t.ctl.ime = false ∧ t.ctl.imeSched = false)

/-- `RunUntil(N)` (70_reset_and_hazards.md R715): it ends, on a cycle count of at least N and below N + 6, or at once when the budget
is already reached; and every step, from every state, answers a next state 1 to 6 M-cycles later. THE MODEL'S CHOICE
(notes/assumptions/18.md, DESIGN CHOICE): `runUntil` is the loop with a bound `fuel` on its steps, and the premise says that
the bound is at least the M-cycles missing to N. -/
def Obligations.RunUntilBudget : Prop :=
  (∀ s : State, ∃ t, step s = .next t ∧ s.cycles + 1 ≤ t.cycles ∧ t.cycles ≤ s.cycles + 6)
    ∧ ∀ (n fuel : Nat) (s : State), n ≤ s.cycles + fuel →
        ∃ t, runUntil n fuel s = .next t ∧ (n ≤ s.cycles → t = s)
          ∧ (s.cycles < n → n ≤ t.cycles ∧ t.cycles < n + 6)

/-- The device advance at the end of a step (60_exceptions.md R500, R505): `n` M-cycles add `n` to `cycles` and run each of the
four ticks once per M-cycle, one M-cycle at a time; each tick writes its own unit and IF bits only (the SoundTimer's not even
those); and the order of the ticks within an M-cycle is not observable: any two of them commute. -/
def Obligations.TickOrderUnobservable : Prop :=
  ∀ s : State,
    (∀ n, s.advance n = State.ticks n { s with cycles := s.cycles + n } ∧ (s.advance n).cycles = s.cycles + n)
    ∧ State.ticks 0 s = s ∧ (∀ n, State.ticks (n + 1) s = State.ticks n s.timerTick.serialTick.ppuTick.apuTick)
    ∧ s.timerTick = { s with timer := s.timerTick.timer, irq := { s.irq with iflag := s.timerTick.irq.iflag } }
    ∧ s.serialTick = { s with ser := s.serialTick.ser, irq := { s.irq with iflag := s.serialTick.irq.iflag } }
    ∧ s.ppuTick = { s with pic := s.ppuTick.pic, irq := { s.irq with iflag := s.ppuTick.irq.iflag } }
    ∧ s.apuTick = { s with snd := s.apuTick.snd }
    ∧ s.timerTick.serialTick = s.serialTick.timerTick ∧ s.timerTick.ppuTick = s.ppuTick.timerTick
    ∧ s.timerTick.apuTick = s.apuTick.timerTick ∧ s.serialTick.ppuTick = s.ppuTick.serialTick
    ∧ s.serialTick.apuTick = s.apuTick.serialTick ∧ s.ppuTick.apuTick = s.apuTick.ppuTick
/-! ### Memory, mappers and DMA -/

/-- The bus map (20_memory.md R82, R90, R94): what each region reads, the overlay first; the echo reads and writes WRAM 0x2000
below; VRAM in mode 3 and OAM in modes 2 and 3 read 0xFF and ignore writes while the display is on, and DMA's reads are
never blocked. The unusable range reads a free value of the model (notes/assumptions/1.md). -/
def Obligations.BusMap : Prop :=
  ∀ (s : State) (a : Word) (v : Byte),
    (∀ boot, a.toNat ≤ 0xFF → s.bootRom = some boot → s.bootOff = false → s.busRead a = boot.read a.toNat)
    ∧ (a.toNat ≤ 0x3FFF → (0xFF < a.toNat ∨ s.bootRom = none ∨ s.bootOff = true) →
        s.busRead a = s.romRead s.bank.bank0 a.toNat)
    ∧ (0x4000 ≤ a.toNat → a.toNat ≤ 0x7FFF → s.busRead a = s.romRead s.bank.bankN (a.toNat - 0x4000))
    ∧ (0x8000 ≤ a.toNat → a.toNat ≤ 0x9FFF →
        s.rawRead a = s.mem.vram.read (a.toNat - 0x8000)
        ∧ (s.pic.lcdc.getLsbD 7 = true → s.pic.mode = .transfer → s.busRead a = 0xFF ∧ s.busWrite a v = s)
        ∧ (¬ (s.pic.lcdc.getLsbD 7 = true ∧ s.pic.mode = .transfer) →
            s.busRead a = s.mem.vram.read (a.toNat - 0x8000) ∧ (s.MemOk → (s.busWrite a v).busRead a = v)))
    ∧ (0xA000 ≤ a.toNat → a.toNat ≤ 0xBFFF → s.busRead a = s.extRamRead a)
    ∧ (0xC000 ≤ a.toNat → a.toNat ≤ 0xDFFF → s.busRead a = s.mem.wram.read (a.toNat - 0xC000))
    ∧ (0xE000 ≤ a.toNat → a.toNat ≤ 0xFDFF →
        s.busRead a = s.busRead (a - 0x2000) ∧ s.busWrite a v = s.busWrite (a - 0x2000) v)
    ∧ (0xFE00 ≤ a.toNat → a.toNat ≤ 0xFE9F →
        s.rawRead a = s.mem.oam.read (a.toNat - 0xFE00)
        ∧ (s.pic.lcdc.getLsbD 7 = true → s.pic.mode = .oamSearch ∨ s.pic.mode = .transfer →
            s.busRead a = 0xFF ∧ s.busWrite a v = s)
        ∧ (¬ (s.pic.lcdc.getLsbD 7 = true ∧ (s.pic.mode = .oamSearch ∨ s.pic.mode = .transfer)) →
            s.busRead a = s.mem.oam.read (a.toNat - 0xFE00) ∧ (s.MemOk → (s.busWrite a v).busRead a = v)))
    ∧ (0xFEA0 ≤ a.toNat → a.toNat ≤ 0xFEFF → s.busWrite a v = s)
    ∧ (0xFF00 ≤ a.toNat → a.toNat ≤ 0xFF7F → s.busRead a = s.ioRead (a.toNat - 0xFF00))
    ∧ (0xFF80 ≤ a.toNat → a.toNat ≤ 0xFFFE → s.busRead a = s.mem.hram.read (a.toNat - 0xFF80))
    ∧ (a.toNat = 0xFFFF → s.busRead a = s.irq.ie ∧ s.busWrite a v = { s with irq := { s.irq with ie := v } })

/-- What every register of the I/O block reads (20_memory.md R92, 10_state.md R78), and 0xFF at every unmapped offset. -/
def Obligations.IoReads : Prop :=
  ∀ s : State,
    s.busRead 0xFF00 = (0xC0 : Byte) ||| (s.joy.sel.setWidth 8 <<< 4) ||| s.joy.low.setWidth 8
    ∧ s.busRead 0xFF01 = s.ser.sb
    ∧ s.busRead 0xFF02 = 0x7E ||| (if s.ser.start then 0x80 else 0) ||| (if s.ser.clock then 0x01 else 0)
    ∧ s.busRead 0xFF04 = s.timer.sys.extractLsb' 6 8
    ∧ s.busRead 0xFF05 = s.timer.tima ∧ s.busRead 0xFF06 = s.timer.tma
    ∧ s.busRead 0xFF07 = (0xF8 : Byte) ||| s.timer.tac.setWidth 8
    ∧ s.busRead 0xFF0F = (0xE0 : Byte) ||| s.irq.iflag.setWidth 8
    ∧ s.busRead 0xFF10 = s.snd.nr10 ||| 0x80 ∧ s.busRead 0xFF11 = s.snd.nr11 ||| 0x3F
    ∧ s.busRead 0xFF12 = s.snd.nr12 ∧ s.busRead 0xFF13 = 0xFF ∧ s.busRead 0xFF14 = s.snd.nr14 ||| 0xBF
    ∧ s.busRead 0xFF16 = s.snd.nr21 ||| 0x3F
    ∧ s.busRead 0xFF17 = s.snd.nr22 ∧ s.busRead 0xFF18 = 0xFF ∧ s.busRead 0xFF19 = s.snd.nr24 ||| 0xBF
    ∧ s.busRead 0xFF1A = s.snd.nr30 ||| 0x7F ∧ s.busRead 0xFF1B = 0xFF ∧ s.busRead 0xFF1C = s.snd.nr32 ||| 0x9F
    ∧ s.busRead 0xFF1D = 0xFF ∧ s.busRead 0xFF1E = s.snd.nr34 ||| 0xBF
    ∧ s.busRead 0xFF20 = 0xFF ∧ s.busRead 0xFF21 = s.snd.nr42 ∧ s.busRead 0xFF22 = s.snd.nr43
    ∧ s.busRead 0xFF23 = s.snd.nr44 ||| 0xBF
    ∧ s.busRead 0xFF24 = s.snd.nr50 ∧ s.busRead 0xFF25 = s.snd.nr51
    ∧ s.busRead 0xFF26 = 0x70 ||| (if s.snd.power then 0x80 else 0)
        ||| (if s.snd.ch1.active then 0x01 else 0) ||| (if s.snd.ch2.active then 0x02 else 0)
        ||| (if s.snd.ch3.active then 0x04 else 0) ||| (if s.snd.ch4.active then 0x08 else 0)
    ∧ (∀ k, k < 16 → s.busRead (BitVec.ofNat 16 (0xFF30 + k)) = s.mem.wave.read k)
    ∧ s.busRead 0xFF40 = s.pic.lcdc
    ∧ s.busRead 0xFF41 = (0x80 : Byte) ||| (s.pic.statEn.setWidth 8 <<< 3) ||| (if s.pic.coinc then 0x04 else 0)
        ||| (match s.pic.mode with | .hblank => (0 : Byte) | .vblank => 1 | .oamSearch => 2 | .transfer => 3)
    ∧ s.busRead 0xFF42 = s.pic.scy ∧ s.busRead 0xFF43 = s.pic.scx
    ∧ s.busRead 0xFF44 = (if s.pic.lcdc.getLsbD 7 then BitVec.ofNat 8 s.pic.ly else 0)
    ∧ s.busRead 0xFF45 = s.pic.lyc ∧ s.busRead 0xFF46 = s.pic.dma ∧ s.busRead 0xFF47 = s.pic.bgp
    ∧ s.busRead 0xFF48 = s.pic.obp0 ∧ s.busRead 0xFF49 = s.pic.obp1 ∧ s.busRead 0xFF4A = s.pic.wy
    ∧ s.busRead 0xFF4B = s.pic.wx ∧ s.busRead 0xFF50 = 0xFF
    ∧ (∀ k, k < 128 → k = 0x03 ∨ (0x08 ≤ k ∧ k ≤ 0x0E) ∨ k = 0x15 ∨ k = 0x1F ∨ (0x27 ≤ k ∧ k ≤ 0x2F)
          ∨ (0x4C ≤ k ∧ k ≤ 0x4F) ∨ 0x51 ≤ k →
        s.busRead (BitVec.ofNat 16 (0xFF00 + k)) = 0xFF)

/-- What a write to each plain register of the I/O block does (20_memory.md R93, 10_state.md R78): the writable bits are stored and
nothing else changes; DIV, LY, BOOT and the unmapped offsets as the rules say. The other registers have their own statements:
P1 in Joypad, SC in SerialTransfer, LCDC in DisplaySwitch, DMA in OamDma, 0xFF10-0xFF25 in SoundWrites and NR52 in SoundPower. -/
def Obligations.IoWrites : Prop :=
  ∀ (s : State) (v : Byte),
    s.busWrite 0xFF01 v = { s with ser := { s.ser with sb := v } }
    ∧ s.busWrite 0xFF04 v = { s with timer := { s.timer with sys := 0 } }
    ∧ s.busWrite 0xFF05 v = { s with timer := { s.timer with tima := v } }
    ∧ s.busWrite 0xFF06 v = { s with timer := { s.timer with tma := v } }
    ∧ s.busWrite 0xFF07 v = { s with timer := { s.timer with tac := v.setWidth 3 } }
    ∧ s.busWrite 0xFF0F v = { s with irq := { s.irq with iflag := v.setWidth 5 } }
    ∧ s.busWrite 0xFF41 v = { s with pic := { s.pic with statEn := (v >>> 3).setWidth 4 } }
    ∧ s.busWrite 0xFF42 v = { s with pic := { s.pic with scy := v } }
    ∧ s.busWrite 0xFF43 v = { s with pic := { s.pic with scx := v } }
    ∧ s.busWrite 0xFF44 v = s
    ∧ s.busWrite 0xFF45 v = { s with pic := { s.pic with lyc := v } }
    ∧ s.busWrite 0xFF47 v = { s with pic := { s.pic with bgp := v } }
    ∧ s.busWrite 0xFF48 v = { s with pic := { s.pic with obp0 := v } }
    ∧ s.busWrite 0xFF49 v = { s with pic := { s.pic with obp1 := v } }
    ∧ s.busWrite 0xFF4A v = { s with pic := { s.pic with wy := v } }
    ∧ s.busWrite 0xFF4B v = { s with pic := { s.pic with wx := v } }
    ∧ s.busWrite 0xFF50 v = (if v = 0 then s else { s with bootOff := true })
    ∧ (∀ k, k < 16 → s.busWrite (BitVec.ofNat 16 (0xFF30 + k)) v
        = { s with mem := { s.mem with wave := s.mem.wave.write k v } })
    ∧ (∀ k, k < 128 → k = 0x03 ∨ (0x08 ≤ k ∧ k ≤ 0x0E) ∨ k = 0x15 ∨ k = 0x1F ∨ (0x27 ≤ k ∧ k ≤ 0x2F)
          ∨ (0x4C ≤ k ∧ k ≤ 0x4F) ∨ 0x51 ≤ k →
        s.busWrite (BitVec.ofNat 16 (0xFF00 + k)) v = s)

/-- External RAM (20_memory.md R123, R129): MBC2's 512 nibbles, mirrored, with the high nibble reading 1; MBC3 with a clock
register selected, where a write is lost and a disabled read gives 0xFF (an enabled one is a `draw`); absent or disabled RAM, which reads 0xFF and ignores writes; and RAM proper, where a
write is read back at every address of the same byte index and leaves the others alone. -/
def Obligations.ExternalRam : Prop :=
  ∀ (s : State) (a b : Word) (v : Byte), s.MemOk →
    0xA000 ≤ a.toNat → a.toNat ≤ 0xBFFF → 0xA000 ≤ b.toNat → b.toNat ≤ 0xBFFF →
    (s.bank.mbc = .mbc2 →
      (s.bank.ramEn = false → s.busRead a = 0xFF ∧ s.busWrite a v = s)
      ∧ (s.bank.ramEn = true →
          s.busRead a = 0xF0 ||| s.mem.ram2.read ((a.toNat - 0xA000) % 512)
          ∧ (s.busWrite a v).busRead b
              = if (a.toNat - 0xA000) % 512 = (b.toNat - 0xA000) % 512 then 0xF0 ||| v else s.busRead b))
    ∧ (s.bank.mbc = .mbc3 → 3 < s.bank.ramSel.toNat →
        s.busWrite a v = s ∧ (s.bank.ramEn = false → s.busRead a = 0xFF))
    ∧ (s.bank.mbc ≠ .mbc2 → ¬ (s.bank.mbc = .mbc3 ∧ 3 < s.bank.ramSel.toNat) →
        (s.bank.hasRam = false ∨ s.bank.ramSize = 0 ∨ s.bank.ramEn = false → s.busRead a = 0xFF ∧ s.busWrite a v = s)
        ∧ (s.bank.hasRam = true → s.bank.ramSize ≠ 0 → s.bank.ramEn = true →
            s.busRead a = s.mem.eram.read ((s.bank.ramBank * 0x2000 + (a.toNat - 0xA000)) % s.bank.ramSize)
            ∧ (s.busWrite a v).busRead b
                = if (s.bank.ramBank * 0x2000 + (a.toNat - 0xA000)) % s.bank.ramSize
                      = (s.bank.ramBank * 0x2000 + (b.toNat - 0xA000)) % s.bank.ramSize
                  then v else s.busRead b))

/-- MBC1 (20_memory.md R122, R124, R127, R128): the four registers by address, 0 aliased to 1 in the 5-bit field, the two ROM windows and the RAM
bank they select at once, and the document's worked case. -/
def Obligations.Mbc1 : Prop :=
  ∀ (s : State) (a b : Word) (v : Byte), s.bank.mbc = .mbc1 → a.toNat ≤ 0x7FFF →
    let t := s.busWrite a v
    t = { s with bank := t.bank }
    ∧ (a.toNat ≤ 0x1FFF → t.bank = { s.bank with ramEn := decide (v.toNat % 16 = 0xA) })
    ∧ (0x2000 ≤ a.toNat → a.toNat ≤ 0x3FFF →
        t.bank = { s.bank with lo5 := t.bank.lo5 } ∧ t.bank.lo5.toNat = max 1 (v.toNat % 32))
    ∧ (s.bank.lo5 ≠ 0 → t.bank.bankN % 32 ≠ 0)
    ∧ (0x4000 ≤ a.toNat → a.toNat ≤ 0x5FFF → t.bank = { s.bank with hi2 := v.setWidth 2 })
    ∧ (0x6000 ≤ a.toNat → t.bank = { s.bank with mode1 := v.getLsbD 0 })
    ∧ (let lo := (if t.bank.mode1 then t.bank.hi2.toNat * 32 else 0) % t.bank.romBanks
       let hi := (t.bank.hi2.toNat * 32 + t.bank.lo5.toNat) % t.bank.romBanks
       (b.toNat ≤ 0x3FFF → s.overlay = none → t.busRead b = s.mem.rom.read (lo * 0x4000 + b.toNat))
       ∧ (0x4000 ≤ b.toNat → b.toNat ≤ 0x7FFF → t.busRead b = s.mem.rom.read (hi * 0x4000 + (b.toNat - 0x4000)))
       ∧ t.bank.ramBank = if t.bank.mode1 then t.bank.hi2.toNat % max 1 (t.bank.ramSize / 8192) else 0)
    ∧ (0x2000 ≤ a.toNat → a.toNat ≤ 0x3FFF → s.bank.mode1 = false → s.bank.hi2 = 0 →
        t.bank.bankN % t.bank.romBanks = max 1 (v.toNat % 32) % s.bank.romBanks)

/-- The other mappers (20_memory.md R124, R129-R133): which field a write to each range changes, and the banks that the fields
select; no mapper and the fallback ignore writes. Only BankState changes. -/
def Obligations.OtherMappers : Prop :=
  ∀ (s : State) (a : Word) (v : Byte), a.toNat ≤ 0x7FFF →
    let t := s.busWrite a v
    (t = { s with bank := t.bank })
    ∧ (s.bank.mbc = .none ∨ s.bank.mbc = .fallback →
        t = s ∧ s.bank.bank0 = 0 ∧ s.bank.bankN = 1 ∧ s.bank.ramBank = 0)
    ∧ (s.bank.mbc = .mbc2 →
        (a.toNat ≤ 0x3FFF → a.getLsbD 8 = false → t.bank = { s.bank with ramEn := decide (v.toNat % 16 = 0xA) })
        ∧ (a.toNat ≤ 0x3FFF → a.getLsbD 8 = true →
            t.bank = { s.bank with rom4 := t.bank.rom4 } ∧ t.bank.rom4.toNat = max 1 (v.toNat % 16))
        ∧ (0x4000 ≤ a.toNat → t = s)
        ∧ t.bank.bank0 = 0 ∧ t.bank.bankN = t.bank.rom4.toNat)
    ∧ (s.bank.mbc = .mbc3 →
        (a.toNat ≤ 0x1FFF → t.bank = { s.bank with ramEn := decide (v.toNat % 16 = 0xA) })
        ∧ (0x2000 ≤ a.toNat → a.toNat ≤ 0x3FFF →
            t.bank = { s.bank with rom7 := t.bank.rom7 } ∧ t.bank.rom7.toNat = max 1 (v.toNat % 128))
        ∧ (0x4000 ≤ a.toNat → a.toNat ≤ 0x5FFF → t.bank = { s.bank with ramSel := v.setWidth 4 })
        ∧ (0x6000 ≤ a.toNat → t = s)
        ∧ t.bank.bank0 = 0 ∧ t.bank.bankN = t.bank.rom7.toNat
        ∧ t.bank.ramBank = t.bank.ramSel.toNat % max 1 (t.bank.ramSize / 8192))
    ∧ (s.bank.mbc = .mbc5 →
        (a.toNat ≤ 0x1FFF → t.bank = { s.bank with ramEn := decide (v.toNat % 16 = 0xA) })
        ∧ (0x2000 ≤ a.toNat → a.toNat ≤ 0x2FFF →
            t.bank = { s.bank with rom9 := t.bank.rom9 }
            ∧ t.bank.rom9.toNat = s.bank.rom9.toNat / 256 * 256 + v.toNat)
        ∧ (0x3000 ≤ a.toNat → a.toNat ≤ 0x3FFF →
            t.bank = { s.bank with rom9 := t.bank.rom9 }
            ∧ t.bank.rom9.toNat = v.toNat % 2 * 256 + s.bank.rom9.toNat % 256)
        ∧ (0x4000 ≤ a.toNat → a.toNat ≤ 0x5FFF → t.bank = { s.bank with ram4 := v.setWidth 4 })
        ∧ (0x6000 ≤ a.toNat → t = s)
        ∧ t.bank.bank0 = 0 ∧ t.bank.bankN = t.bank.rom9.toNat
        ∧ t.bank.ramBank = t.bank.ram4.toNat % max 1 (t.bank.ramSize / 8192))

/-- OAM DMA (20_memory.md R140): a write to 0xFF46 stores the value and fills all 160 bytes of OAM with what the source page
reads, unblocked and unblocking, every source address decoded as for the CPU; nothing else changes and no M-cycle passes. -/
def Obligations.OamDma : Prop :=
  ∀ (s : State) (v : Byte), s.MemOk →
    let u : State := { s with pic := { s.pic with dma := v } }
    let t := s.busWrite 0xFF46 v
    t = { u with mem := { s.mem with oam := t.mem.oam } }
    ∧ (∀ i, i < 160 → t.mem.oam.read i = u.rawRead (BitVec.ofNat 16 (v.toNat * 256 + i)))
    ∧ ∀ a : Word, u.rawRead a =
        if 0x8000 ≤ a.toNat ∧ a.toNat ≤ 0x9FFF then s.mem.vram.read (a.toNat - 0x8000)
        else if 0xFE00 ≤ a.toNat ∧ a.toNat ≤ 0xFE9F then s.mem.oam.read (a.toNat - 0xFE00)
        else u.busRead a

/-! ### Timer, joypad and serial unit -/

/-- The timer unit (60_exceptions.md R540, R541, 10_state.md R53): one M-cycle advances `sys` modulo 2^14, counts TIMA when the
timer is enabled and `sys` reaches a multiple of the period, and on overflow reloads TMA and requests interrupt 2 in the same
M-cycle; nothing else changes. Writes to DIV and TAC and the STOP reset never count TIMA by themselves. -/
def Obligations.TimerTick : Prop :=
  ∀ (s : State) (v : Byte),
    let period := match (s.timer.tac.setWidth 2).toNat with | 0 => 256 | 1 => 4 | 2 => 16 | _ => 64
    let counts := s.timer.tac.getLsbD 2 = true ∧ (s.timer.sys.toNat + 1) % period = 0
    let t := s.timerTick
    t = { s with timer := { s.timer with sys := t.timer.sys, tima := t.timer.tima }
                 irq := { s.irq with iflag := t.irq.iflag } }
    ∧ t.timer.sys.toNat = (s.timer.sys.toNat + 1) % 16384
    ∧ (counts → s.timer.tima = 0xFF → t.timer.tima = s.timer.tma ∧ t.irq.iflag = s.irq.iflag ||| 4)
    ∧ (counts → s.timer.tima ≠ 0xFF →
        t.timer.tima.toNat = s.timer.tima.toNat + 1 ∧ t.irq.iflag = s.irq.iflag)
    ∧ (¬ counts → t.timer.tima = s.timer.tima ∧ t.irq.iflag = s.irq.iflag)
    ∧ s.busRead 0xFF04 = (s.timer.sys >>> 6).setWidth 8
    ∧ s.busWrite 0xFF04 v = { s with timer := { s.timer with sys := 0 } }
    ∧ s.busWrite 0xFF07 v = { s with timer := { s.timer with tac := v.setWidth 3 } }
    ∧ ∃ u, exec (.stop v) s = .next u ∧ u.timer = { s.timer with sys := 0 } ∧ u.irq = s.irq

/-- The timer's rate (60_exceptions.md R540): over `n` M-cycles in which nothing overflows, TIMA has counted the multiples of the period
that `sys` passed, whatever the number of M-cycles. -/
def Obligations.TimerRate : Prop :=
  ∀ (s : State) (n : Nat),
    let count := (s.timer.sys.toNat + n) / timerPeriod s.timer.tac - s.timer.sys.toNat / timerPeriod s.timer.tac
    s.timer.tac.getLsbD 2 = true → s.timer.tima.toNat + count ≤ 255 →
    (State.ticks n s).timer.tima.toNat = s.timer.tima.toNat + count
    ∧ (State.ticks n s).timer.sys.toNat = (s.timer.sys.toNat + n) % 16384

/-- The joypad (60_exceptions.md R570, R571): what P1 reads, bit by bit; and after a write to P1 or an update of the masks by the host,
interrupt 4 is requested exactly when a line that was 1 is 0 now. -/
def Obligations.Joypad : Prop :=
  ∀ (s : State) (v : Byte) (buttons dirs : BitVec 4),
    let low := fun (j : Machine.Joypad) (i : Nat) =>
      (j.sel.getLsbD 1 || j.buttons.getLsbD i) && (j.sel.getLsbD 0 || j.dirs.getLsbD i)
    let checked := fun (t : State) (j : Machine.Joypad) =>
      t = { s with joy := t.joy, irq := { s.irq with iflag := t.irq.iflag } }
      ∧ t.joy = { j with last := t.joy.last } ∧ (∀ i, i < 4 → t.joy.last.getLsbD i = low j i)
      ∧ ((∃ i, i < 4 ∧ s.joy.last.getLsbD i = true ∧ low j i = false) → t.irq.iflag = s.irq.iflag ||| 16)
      ∧ ((∀ i, i < 4 → s.joy.last.getLsbD i = true → low j i = true) → t.irq.iflag = s.irq.iflag)
    (∀ i, i < 4 → (s.busRead 0xFF00).getLsbD i = low s.joy i)
    ∧ (s.busRead 0xFF00).getLsbD 4 = s.joy.sel.getLsbD 0 ∧ (s.busRead 0xFF00).getLsbD 5 = s.joy.sel.getLsbD 1
    ∧ (s.busRead 0xFF00).getLsbD 6 = true ∧ (s.busRead 0xFF00).getLsbD 7 = true
    ∧ checked (s.busWrite 0xFF00 v) { s.joy with sel := (v >>> 4).setWidth 2 }
    ∧ checked (s.hostAct (.setKeys buttons dirs)) { s.joy with buttons := buttons, dirs := dirs }

/-- The serial unit (60_exceptions.md R575): a start with the internal clock loads 1024, a write with bit 7 clear ends the transfer; a
running transfer counts one M-cycle at a time, and only its last M-cycle clears SC bit 7 and requests interrupt 3; an idle
unit, as with the external clock, never ends one and requests nothing. One M-cycle of the unit changes the unit and IF bit 3
alone. Nothing is said of the byte received, a `draw` (notes/assumptions/1.md). THE MODEL'S CHOICE (notes/assumptions/20.md,
DESIGN CHOICE): a write with bit 7 set and bit 0 clear keeps the count, so a running internal-clock transfer still ends. -/
def Obligations.SerialTransfer : Prop :=
  ∀ (s : State) (v : Byte),
    (let t := s.busWrite 0xFF02 v;
      t = { s with ser := t.ser } ∧ t.ser.sb = s.ser.sb
      ∧ t.ser.start = v.getLsbD 7 ∧ t.ser.clock = v.getLsbD 0
      ∧ (v.getLsbD 7 = true → v.getLsbD 0 = true → t.ser.count = 1024)
      ∧ (v.getLsbD 7 = false → t.ser.count = 0)
      ∧ (v.getLsbD 7 = true → v.getLsbD 0 = false → t.ser.count = s.ser.count))
    ∧ (let t := s.serialTick;
      (s.ser.count = 0 → t = s)
      ∧ (1 < s.ser.count → t = { s with ser := { s.ser with count := s.ser.count - 1 } })
      ∧ (s.ser.count = 1 → t = { s with ser := { s.ser with sb := t.ser.sb, start := false, count := 0 }
                                        irq := { s.irq with iflag := s.irq.iflag ||| 8 } }))
    ∧ (∀ n, n < s.ser.count →
        (State.ticks n s).ser = { s.ser with count := s.ser.count - n }
        ∧ (State.ticks n s).irq.iflag.getLsbD 3 = s.irq.iflag.getLsbD 3)
    ∧ (0 < s.ser.count →
        let t := State.ticks s.ser.count s
        t.ser = { s.ser with sb := t.ser.sb, start := false, count := 0 } ∧ t.irq.iflag.getLsbD 3 = true)
    ∧ (s.ser.count = 0 → ∀ n,
        (State.ticks n s).ser = s.ser ∧ (State.ticks n s).irq.iflag.getLsbD 3 = s.irq.iflag.getLsbD 3)

/-! ### PictureTimer -/

/-- The line and mode sequence (60_exceptions.md R600, R601): while the display is on, `n` M-cycles move the position within the frame by
n modulo 17556, whatever n is, and the mode is the one that the line and the unit call for. -/
def Obligations.FramePosition : Prop :=
  ∀ (s : State) (n : Nat), s.PicOk → s.pic.lcdc.getLsbD 7 = true →
    let t := State.ticks n s
    t.pic.ly < 154 ∧ t.pic.u < 114
    ∧ t.pic.ly * 114 + t.pic.u = (s.pic.ly * 114 + s.pic.u + n) % 17556
    ∧ t.pic.mode = (if t.pic.ly ≤ 143 then
        (if t.pic.u ≤ 19 then .oamSearch else if t.pic.u ≤ 62 then .transfer else .hblank) else .vblank)

/-- The PictureTimer's interrupt requests (60_exceptions.md R612, R613): in one M-cycle with the display on, VBlank is requested exactly
on entering line 144, STAT exactly at an enabled event (mode 0 at unit 63 of a visible line, mode 1 at line 144, mode 2 at the start of a
visible line, the compare at any line start), and no other bit of IF changes. The compare is latched at line starts only,
and a write to STAT requests nothing. -/
def Obligations.PictureInterrupts : Prop :=
  ∀ s : State, s.pic.lcdc.getLsbD 7 = true → s.pic.ly < 154 → s.pic.u < 114 →
    let t := s.ppuTick
    let next := (s.pic.ly + 1) % 154
    let starts := s.pic.u = 113
    let vblank := starts ∧ next = 144
    let event :=
      (s.pic.u = 62 ∧ s.pic.ly < 144 ∧ s.pic.statEn.getLsbD 0 = true)
      ∨ (vblank ∧ s.pic.statEn.getLsbD 1 = true)
      ∨ (starts ∧ next < 144 ∧ s.pic.statEn.getLsbD 2 = true)
      ∨ (starts ∧ next = s.pic.lyc.toNat ∧ s.pic.statEn.getLsbD 3 = true)
    (t.irq.iflag.getLsbD 0 = true ↔ s.irq.iflag.getLsbD 0 = true ∨ vblank)
    ∧ (t.irq.iflag.getLsbD 1 = true ↔ s.irq.iflag.getLsbD 1 = true ∨ event)
    ∧ (∀ k, 2 ≤ k → t.irq.iflag.getLsbD k = s.irq.iflag.getLsbD k) ∧ t.irq.ie = s.irq.ie
    ∧ (starts → t.pic.coinc = decide (next = s.pic.lyc.toNat)) ∧ (¬ starts → t.pic.coinc = s.pic.coinc)
    ∧ (t.pic.frameDone = true ↔ s.pic.frameDone = true ∨ vblank)
    ∧ ∀ v, (s.busWrite 0xFF41 v).irq = s.irq

/-- Turning the display off and on, and time while it is off (60_exceptions.md R630, R631): the effects of a write to LCDC that changes bit 7, and a write that leaves it only stores
the byte. No interrupt is requested. While the display is off, M-cycles are counted to 17556, at which `frame_done` is set, and nothing
else changes. Which of the two LCDC values the sprite selection of the enable uses is the model's reading
(notes/assumptions/7.md). -/
def Obligations.DisplaySwitch : Prop :=
  ∀ (s : State) (v : Byte),
    let t := s.busWrite 0xFF40 v
    (v.getLsbD 7 = s.pic.lcdc.getLsbD 7 → t = { s with pic := { s.pic with lcdc := v } })
    ∧ (s.pic.lcdc.getLsbD 7 = true → v.getLsbD 7 = false →
        t = { s with pic := { s.pic with
          lcdc := v, ly := 0, u := 0, mode := .hblank, lineSprites := [], offCount := 0 } })
    ∧ (s.pic.lcdc.getLsbD 7 = false → v.getLsbD 7 = true →
        t = { s with pic := { s.pic with
          lcdc := v, ly := 0, u := 0, mode := .oamSearch, winLine := 0, coinc := decide (s.pic.lyc = 0)
          lineSprites := selectSprites s.mem.oam v 0 } })
    ∧ (v.getLsbD 7 = false → t.busRead 0xFF44 = 0)
    ∧ (s.pic.lcdc.getLsbD 7 = false →
        (s.pic.offCount = 17555 → s.ppuTick = { s with pic := { s.pic with offCount := 0, frameDone := true } })
        ∧ (s.pic.offCount ≠ 17555 → s.ppuTick = { s with pic := { s.pic with offCount := s.pic.offCount + 1 } }))

/-- The line descriptors (60_exceptions.md R610, R625, R640). The sprites selected for a line are the first ten in table order whose rows
cover it, 8 or 16 rows high by LCDC bit 2, ordered by the x byte and then by the index. One record per visible line is handed over, on
entering mode 3 at unit 20, with the registers, the window line counter before its increment, and the selected sprites' OAM bytes as they are
then. The counter steps on the lines at or below WY with the window enabled, and is 0 from the start of line 0. THE MODEL'S CHOICE
(notes/assumptions/8.md, DESIGN CHOICE): the records handed over are kept in the list `lines`, the newest first. -/
def Obligations.LineDescriptors : Prop :=
  (∀ (oam : Store) (lcdc : Byte) (line : Nat),
    let h := if lcdc.getLsbD 2 then 16 else 8
    let y := fun i => (oam.read (4 * i)).toNat
    let x := fun i => (oam.read (4 * i + 1)).toNat
    let l := selectSprites oam lcdc line
    l.Perm (((List.range 40).filter (fun i => decide (y i ≤ line + 16) && decide (line + 16 < y i + h))).take 10)
    ∧ l.Pairwise (fun i j => x i < x j ∨ (x i = x j ∧ i < j)))
  ∧ (∀ s : State, s.pic.lcdc.getLsbD 7 = true → s.pic.u = 113 →
      let line := (s.pic.ly + 1) % 154
      (line < 144 → s.ppuTick.pic.lineSprites = selectSprites s.mem.oam s.pic.lcdc line)
      ∧ (line = 144 → s.ppuTick.pic.lineSprites = []))
  ∧ ∀ s : State, s.pic.lcdc.getLsbD 7 = true → s.pic.ly < 154 → s.pic.u < 114 →
    let t := s.ppuTick
    let on := s.pic.lcdc.getLsbD 5 && decide (s.pic.wy.toNat ≤ s.pic.ly)
    (s.pic.u = 19 → s.pic.ly < 144 →
      t.pic.lines =
        { ly := s.pic.ly, scx := s.pic.scx, scy := s.pic.scy, wx := s.pic.wx, wy := s.pic.wy
          winLine := s.pic.winLine, winOn := on, lcdc := s.pic.lcdc, bgp := s.pic.bgp
          obp0 := s.pic.obp0, obp1 := s.pic.obp1
          sprites := s.pic.lineSprites.map (fun i =>
            { index := i, y := s.mem.oam.read (4 * i), x := s.mem.oam.read (4 * i + 1)
              tile := s.mem.oam.read (4 * i + 2), attr := s.mem.oam.read (4 * i + 3) }) } :: s.pic.lines
      ∧ t.pic.winLine = (if on then s.pic.winLine + 1 else s.pic.winLine))
    ∧ (¬ (s.pic.u = 19 ∧ s.pic.ly < 144) → t.pic.lines = s.pic.lines
        ∧ t.pic.winLine = if s.pic.u = 113 ∧ s.pic.ly = 153 then 0 else s.pic.winLine)

/-! ### SoundTimer -/

/-- Sound power and the register writes (60_exceptions.md R667, R668): power off clears every register and channel and keeps wave RAM and
the LFSR; power on restarts the frame sequencer; while power is off the sequencer does not run and the registers ignore writes, and wave RAM does not. -/
def Obligations.SoundPower : Prop :=
  ∀ (s : State) (v : Byte),
    let t := s.busWrite 0xFF26 v
    (v.getLsbD 7 = s.snd.power → t = s)
    ∧ (s.snd.power = true → v.getLsbD 7 = false →
        t = { s with snd := { s.snd with
          nr10 := 0, nr11 := 0, nr12 := 0, nr13 := 0, nr14 := 0, nr21 := 0, nr22 := 0, nr23 := 0, nr24 := 0
          nr30 := 0, nr31 := 0, nr32 := 0, nr33 := 0, nr34 := 0, nr41 := 0, nr42 := 0, nr43 := 0, nr44 := 0
          nr50 := 0, nr51 := 0
          power := false
          ch1 := { active := false, len := 0 }, ch2 := { active := false, len := 0 }
          ch3 := { active := false, len := 0 }, ch4 := { active := false, len := 0 }
          env1 := { vol := 0, timer := 0 }, env2 := { vol := 0, timer := 0 }, env4 := { vol := 0, timer := 0 }
          sweep := { shadow := 0, timer := 0, en := false } } })
    ∧ (s.snd.power = false → v.getLsbD 7 = true →
        t = { s with snd := { s.snd with power := true, fsCount := 0, fsStep := 0 } })
    ∧ (∀ k, 0x10 ≤ k → k ≤ 0x25 → s.snd.power = false → s.busWrite (BitVec.ofNat 16 (0xFF00 + k)) v = s)
    ∧ (∀ k, k < 16 → s.busWrite (BitVec.ofNat 16 (0xFF30 + k)) v
        = { s with mem := { s.mem with wave := s.mem.wave.write k v } })
    ∧ (s.snd.power = false → s.apuTick.snd.fsCount = s.snd.fsCount ∧ s.apuTick.snd.fsStep = s.snd.fsStep)

/-- Sound register writes with power on (60_exceptions.md R662, R665, R666, R668), each of 0xFF10-0xFF25: the byte is stored; NRx1 loads the
length; NRx2 and NR30 with the DAC off silence the channel and never start it; NRx4 with bit 7 triggers, by the rule for each
channel; the other registers store the byte and change nothing else, NR13 not the shadow frequency either. -/
def Obligations.SoundWrites : Prop :=
  ∀ (s : State) (v : Byte), s.snd.power = true →
    let n := s.snd
    let len6 := 64 - v.toNat % 64
    let dac := fun (b : Byte) => decide (8 ≤ b.toNat)
    let restart := fun (c : Channel) (on : Bool) (most : Nat) =>
      ({ active := on, len := if c.len = 0 then most else c.len } : Channel)
    let loads := fun (b : Byte) => ({ vol := (b >>> 4).setWidth 4, timer := b.toNat % 8 } : Envelope)
    s.busWrite 0xFF10 v = { s with snd := { n with nr10 := v } } ∧ s.busWrite 0xFF13 v = { s with snd := { n with nr13 := v } }
    ∧ s.busWrite 0xFF18 v = { s with snd := { n with nr23 := v } } ∧ s.busWrite 0xFF1C v = { s with snd := { n with nr32 := v } }
    ∧ s.busWrite 0xFF1D v = { s with snd := { n with nr33 := v } } ∧ s.busWrite 0xFF22 v = { s with snd := { n with nr43 := v } }
    ∧ s.busWrite 0xFF24 v = { s with snd := { n with nr50 := v } } ∧ s.busWrite 0xFF25 v = { s with snd := { n with nr51 := v } }
    ∧ s.busWrite 0xFF11 v = { s with snd := { n with nr11 := v, ch1 := { n.ch1 with len := len6 } } }
    ∧ s.busWrite 0xFF16 v = { s with snd := { n with nr21 := v, ch2 := { n.ch2 with len := len6 } } }
    ∧ s.busWrite 0xFF1B v = { s with snd := { n with nr31 := v, ch3 := { n.ch3 with len := 256 - v.toNat } } }
    ∧ s.busWrite 0xFF20 v = { s with snd := { n with nr41 := v, ch4 := { n.ch4 with len := len6 } } }
    ∧ s.busWrite 0xFF12 v = { s with snd := { n with nr12 := v, ch1 := { n.ch1 with active := n.ch1.active && dac v } } }
    ∧ s.busWrite 0xFF17 v = { s with snd := { n with nr22 := v, ch2 := { n.ch2 with active := n.ch2.active && dac v } } }
    ∧ s.busWrite 0xFF1A v
        = { s with snd := { n with nr30 := v, ch3 := { n.ch3 with active := n.ch3.active && v.getLsbD 7 } } }
    ∧ s.busWrite 0xFF21 v = { s with snd := { n with nr42 := v, ch4 := { n.ch4 with active := n.ch4.active && dac v } } }
    ∧ s.busWrite 0xFF19 v = (if v.getLsbD 7 then
        { s with snd := { n with nr24 := v, ch2 := restart n.ch2 (dac n.nr22) 64, env2 := loads n.nr22 } }
        else { s with snd := { n with nr24 := v } })
    ∧ s.busWrite 0xFF1E v = (if v.getLsbD 7 then
        { s with snd := { n with nr34 := v, ch3 := restart n.ch3 (n.nr30.getLsbD 7) 256 } }
        else { s with snd := { n with nr34 := v } })
    ∧ s.busWrite 0xFF23 v = (if v.getLsbD 7 then
        { s with snd := { n with nr44 := v, ch4 := restart n.ch4 (dac n.nr42) 64, env4 := loads n.nr42
                                 lfsr := 0x7FFF } }
        else { s with snd := { n with nr44 := v } })
    ∧ (v.getLsbD 7 = false → s.busWrite 0xFF14 v = { s with snd := { n with nr14 := v } })
    ∧ (v.getLsbD 7 = true →
        let t := s.busWrite 0xFF14 v
        let period := n.nr10.toNat / 16 % 8
        let shift := n.nr10.toNat % 8
        let f := v.toNat % 8 * 256 + n.nr13.toNat
        let overflow := shift ≠ 0 ∧ n.nr10.getLsbD 3 = false ∧ 2047 < f + f / 2 ^ shift
        t = { s with snd := { n with
          nr14 := v, env1 := loads n.nr12, sweep := t.snd.sweep
          ch1 := restart n.ch1 (dac n.nr12 && !decide overflow) 64 } }
        ∧ t.snd.sweep.shadow.toNat = f ∧ t.snd.sweep.timer = (if period ≠ 0 then period else 8)
        ∧ t.snd.sweep.en = decide (period ≠ 0 ∨ shift ≠ 0))

/-- The frame sequencer (60_exceptions.md R660, R661, R663, R664): with power on it steps once per 2048 M-cycles, and with power
off it does not run. Even steps clock the length counters of all four channels, and a counter that reaches 0 with its enable
bit set silences its channel; then steps 2 and 6 run the sweep clock on the result; step 7 runs the envelope clock of
channels 1, 2 and 4; the other odd steps change nothing. EnvelopeAndSweep says what `sweepClock` and `Envelope.clock` do. An
envelope timer decremented from 0 becomes some value of 0 to 8 (notes/assumptions/2.md). -/
def Obligations.FrameSequencer : Prop :=
  ∀ s : State,
    let n := s.snd
    let m := s.apuTick.snd
    let clocked := fun (c : Channel) (nrx4 : Byte) =>
      if nrx4.getLsbD 6 = true ∧ 0 < c.len then ({ active := c.active && decide (c.len ≠ 1), len := c.len - 1 } : Channel)
      else c
    let lengths := { n with ch1 := clocked n.ch1 n.nr14, ch2 := clocked n.ch2 n.nr24
                            ch3 := clocked n.ch3 n.nr34, ch4 := clocked n.ch4 n.nr44 }
    let becomes := fun (k : Sound) =>
      m = { k with fsCount := m.fsCount, fsStep := m.fsStep, sampleCount := m.sampleCount, samples := m.samples }
    (n.power = false → becomes n ∧ m.fsCount = n.fsCount ∧ m.fsStep = n.fsStep)
    ∧ (n.power = true → n.fsCount + 1 ≠ 2048 → becomes n ∧ m.fsCount = n.fsCount + 1 ∧ m.fsStep = n.fsStep)
    ∧ (n.power = true → n.fsCount + 1 = 2048 →
        m.fsCount = 0 ∧ m.fsStep = (n.fsStep + 1) % 8
        ∧ (n.fsStep % 2 = 0 → m.ch1.len = (clocked n.ch1 n.nr14).len
            ∧ (n.fsStep ≠ 2 → n.fsStep ≠ 6 → becomes lengths) ∧ (n.fsStep = 2 ∨ n.fsStep = 6 → becomes lengths.sweepClock))
        ∧ (n.fsStep = 7 → ∃ b1 b2 b4 : Fin 9, becomes { n with
            env1 := n.env1.clock n.nr12 n.ch1.active b1.val
            env2 := n.env2.clock n.nr22 n.ch2.active b2.val
            env4 := n.env4.clock n.nr42 n.ch4.active b4.val })
        ∧ (n.fsStep % 2 = 1 → n.fsStep ≠ 7 → becomes n))

/-- The envelope and the sweep (60_exceptions.md R663, R664), as functions of their registers: an envelope with a period steps its volume towards 15 or
0 each time its timer runs out, never past it; the sweep moves the shadow frequency by its shift, writes it back into NR13 and NR14, and
silences channel 1 on a result above 2047. Nothing is said of an envelope timer that is 0 before its decrement, a case the rule states no value
for (notes/assumptions/2.md). -/
def Obligations.EnvelopeAndSweep : Prop :=
  (∀ (e : Envelope) (nrx2 : Byte) (active : Bool) (below : Nat),
    let p := nrx2.toNat % 8
    let e' := e.clock nrx2 active below
    (active = false ∨ p = 0 → e' = e)
    ∧ (active = true → p ≠ 0 → 1 < e.timer → e' = { e with timer := e.timer - 1 })
    ∧ (active = true → p ≠ 0 → e.timer = 1 → e'.timer = p
        ∧ e'.vol.toNat = if nrx2.getLsbD 3 then min 15 (e.vol.toNat + 1) else e.vol.toNat - 1))
  ∧ ∀ n : Sound,
    let p := n.nr10.toNat / 16 % 8
    let sh := n.nr10.toNat % 8
    let reload := if p ≠ 0 then p else 8
    let freq := fun (f : Nat) => if n.nr10.getLsbD 3 then f - f / 2 ^ sh else f + f / 2 ^ sh
    let f := freq n.sweep.shadow.toNat
    let m := n.sweepClock
    (n.sweep.timer = 0 → m = n)
    ∧ (1 < n.sweep.timer → m = { n with sweep := { n.sweep with timer := n.sweep.timer - 1 } })
    ∧ (n.sweep.timer = 1 → n.sweep.en = false ∨ p = 0 → m = { n with sweep := { n.sweep with timer := reload } })
    ∧ (n.sweep.timer = 1 → n.sweep.en = true → p ≠ 0 → 2047 < f →
        m = { n with sweep := { n.sweep with timer := reload }, ch1 := { n.ch1 with active := false } })
    ∧ (n.sweep.timer = 1 → n.sweep.en = true → p ≠ 0 → f ≤ 2047 → sh = 0 →
        m = { n with sweep := { n.sweep with timer := reload } })
    ∧ (n.sweep.timer = 1 → n.sweep.en = true → p ≠ 0 → f ≤ 2047 → sh ≠ 0 →
        m = { n with nr13 := m.nr13, nr14 := m.nr14, sweep := m.sweep, ch1 := m.ch1 }
        ∧ m.sweep.shadow.toNat = f ∧ m.sweep.timer = reload ∧ m.sweep.en = n.sweep.en
        ∧ m.nr14.toNat % 8 * 256 + m.nr13.toNat = f ∧ m.nr14.toNat / 8 = n.nr14.toNat / 8
        ∧ m.ch1 = { n.ch1 with active := n.ch1.active && decide (freq f ≤ 2047) })

/-- The sample records (60_exceptions.md R690): one record each time the count of M-cycles wraps at SAMPLE_PERIOD, with each channel's frequency or
divisor, its volume or 0 while it is inactive, its shape, and the mixer registers; with power off too, and then every volume is 0 in a
state whose channels are off with the power (`SndOk`, part of the invariant that every step keeps). THE MODEL'S CHOICE
(notes/assumptions/8.md, DESIGN CHOICE): the records handed over are kept in the list `samples`, the newest first. -/
def Obligations.SampleRecords : Prop :=
  ∀ s : State,
    let n := s.snd
    let m := s.apuTick.snd
    m.sampleCount = (n.sampleCount + 1) % s.samplePeriod
    ∧ (m.sampleCount ≠ 0 → m.samples = n.samples)
    ∧ (m.sampleCount = 0 → ∃ r, m.samples = r :: n.samples
        ∧ r.freq1.toNat = n.nr14.toNat % 8 * 256 + n.nr13.toNat
        ∧ r.freq2.toNat = n.nr24.toNat % 8 * 256 + n.nr23.toNat
        ∧ r.freq3.toNat = n.nr34.toNat % 8 * 256 + n.nr33.toNat
        ∧ r.vol1 = (if n.ch1.active then n.env1.vol else 0) ∧ r.duty1.toNat = n.nr11.toNat / 64
        ∧ r.vol2 = (if n.ch2.active then n.env2.vol else 0) ∧ r.duty2.toNat = n.nr21.toNat / 64
        ∧ r.level3.toNat = (if n.ch3.active then n.nr32.toNat / 32 % 4 else 0)
        ∧ r.wave3 = (List.range 16).map (fun k => s.mem.wave.read k)
        ∧ r.shift4.toNat = n.nr43.toNat / 16 ∧ r.divisor4.toNat = n.nr43.toNat % 8
        ∧ r.vol4 = (if n.ch4.active then n.env4.vol else 0) ∧ r.width4 = n.nr43.getLsbD 3
        ∧ r.nr50 = n.nr50 ∧ r.nr51 = n.nr51 ∧ r.power = n.power
        ∧ (s.SndOk → n.power = false → r.vol1 = 0 ∧ r.vol2 = 0 ∧ r.level3 = 0 ∧ r.vol4 = 0))

/-! ### The whole machine -/

/-- After every launch that is not refused (70_reset_and_hazards.md R700-R702, R705, R713, 10_state.md R36, R40-R68, R75, R76,
20_memory.md R120, R121, R125, R126, R133, R135): the CPU is running, IME = 0 and IE = 0x00, so nothing can be dispatched; the
header decides the mapper, its RAM and battery, the RAM size and the unsupported-mapper report; the image is CART, external
RAM and MBC2's cells come from SAVE on a battery cartridge, and the other memories from INIT_RAM; and every register and
counter that is no `draw` holds its reset value, in the mode that BOOT_ROM chooses. Of a register that is a `draw` nothing is
said but its range and the bits that the rules fix, and nothing of the noise register in post-boot mode (notes/assumptions/4.md).
THE MODEL'S CHOICE: the write-only bits that the reads of NR11, NR21 (5-0) and NR44 (7) hide are 0 in post-boot mode
(notes/assumptions/21.md); `lines` and `samples`, the lists of handed-over records, start empty (notes/assumptions/8.md); INIT_RAM is
given as byte strings, and a SAVE or INIT_RAM string is cut to the memory's size (notes/assumptions/3.md, 12.md).
A launch is refused exactly when the checks of R706 fail or SAMPLE_PERIOD is 0, which is the model's check of R11
(notes/assumptions/13.md). -/
def Obligations.LaunchState : Prop :=
  ∀ p : LaunchParams,
    (∀ s : State, State.launch p = .ok s →
      s.ctl = { ime := false, imeSched := false, halted := false, stopped := false, locked := false
                haltbugPending := false }
      ∧ s.irq.ie = 0 ∧ s.pending = 0 ∧ s.cycles = 0
      ∧ s.joy = { sel := 0, buttons := p.buttons, dirs := p.dirs, last := 0xF }
      ∧ s.ser = { sb := 0, start := false, clock := false, count := 0 }
      ∧ s.haltBug = p.haltBug ∧ s.samplePeriod = p.samplePeriod
      ∧ (∀ row ∈ headerTypes, row.1 = cartByte p.cart 0x147 →
          s.bank.mbc = row.2.1 ∧ s.bank.hasRam = row.2.2.1 ∧ s.bank.hasBattery = row.2.2.2)
      ∧ ((∀ row ∈ headerTypes, row.1 ≠ cartByte p.cart 0x147) →
          s.bank.mbc = .fallback ∧ s.bank.hasRam = false ∧ s.bank.hasBattery = false)
      ∧ s.mapperUnsupported = decide (s.bank.mbc = .fallback)
      ∧ (∀ row ∈ headerRamSizes, row.1 = cartByte p.cart 0x149 →
          s.bank.hasRam = true → s.bank.mbc ≠ .mbc2 → s.bank.ramSize = row.2)
      ∧ ((∀ row ∈ headerRamSizes, row.1 ≠ cartByte p.cart 0x149) ∨ s.bank.hasRam = false ∨ s.bank.mbc = .mbc2 →
          s.bank.ramSize = 0)
      ∧ s.bank.ramEn = (decide (s.bank.mbc = .none) && s.bank.hasRam)
      ∧ (∀ k, s.mem.rom.read k = p.cart.getD k 0)
      ∧ (∀ k, s.mem.eram.read k
          = if s.bank.hasBattery = true ∧ k < s.bank.ramSize then (p.save.getD []).getD k 0 else 0)
      ∧ (∀ k, s.mem.ram2.read k
          = if s.bank.mbc = .mbc2 ∧ s.bank.hasBattery = true ∧ k < 512 then (p.save.getD []).getD k 0 &&& 0x0F else 0)
      ∧ (∀ k, s.mem.vram.read k = if k < 0x2000 then p.initRam.vram.getD k 0 else 0)
      ∧ (∀ k, s.mem.wram.read k = if k < 0x2000 then p.initRam.wram.getD k 0 else 0)
      ∧ (∀ k, s.mem.oam.read k = if k < 160 then p.initRam.oam.getD k 0 else 0)
      ∧ (∀ k, s.mem.hram.read k = if k < 127 then p.initRam.hram.getD k 0 else 0)
      ∧ (∀ k, s.mem.wave.read k = if k < 16 then p.initRam.wave.getD k 0 else 0)
      ∧ s.bank.romBanks = 2 * 2 ^ (cartByte p.cart 0x148).toNat
      ∧ s.bank.lo5 = 1 ∧ s.bank.hi2 = 0 ∧ s.bank.mode1 = false ∧ s.bank.rom4 = 1 ∧ s.bank.rom7 = 1
      ∧ s.bank.ramSel = 0 ∧ s.bank.rom9 = 1 ∧ s.bank.ram4 = 0
      ∧ (p.bootRom = none →
          s.regs = { a := 0x01, b := 0x00, c := 0x13, d := 0x00, e := 0xD8, h := 0x01, l := 0x4D
                     fz := true, fn := false, fh := true, fc := true, sp := 0xFFFE, pc := 0x0100 }
          ∧ s.f = 0xB0 ∧ s.bootOff = true ∧ s.irq.iflag = 0x01
          ∧ s.timer = { sys := 0x2AC0, tima := 0, tma := 0, tac := 0 }
          ∧ s.pic = { lcdc := 0x91, statEn := 0, scy := 0, scx := 0, lyc := 0, dma := 0xFF, bgp := 0xFC
                      obp0 := s.pic.obp0, obp1 := s.pic.obp1, wy := 0, wx := 0, ly := 0, u := 0, mode := .oamSearch
                      coinc := true, winLine := 0, lineSprites := selectSprites s.mem.oam 0x91 0, frameDone := false
                      offCount := 0, lines := [] }
          ∧ s.snd = { s.snd with
              nr10 := 0, nr11 := 0x80, nr12 := 0xF3, nr21 := 0, nr22 := 0, nr30 := 0, nr32 := 0
              nr42 := 0, nr43 := 0, nr44 := 0, nr50 := 0x77, nr51 := 0xF3, power := true
              ch1 := { active := true, len := s.snd.ch1.len }, ch2 := { active := false, len := 0 }
              ch3 := { active := false, len := 0 }, ch4 := { active := false, len := 0 }
              env1 := { vol := 0, timer := s.snd.env1.timer }, env2 := { vol := 0, timer := 0 }, env4 := { vol := 0, timer := 0 }
              sweep := { shadow := s.snd.sweep.shadow, timer := s.snd.sweep.timer, en := false }
              fsCount := 0, fsStep := 0, sampleCount := 0, samples := [] }
          ∧ s.snd.nr14.toNat / 8 % 16 = 0 ∧ s.snd.nr24.toNat / 8 % 16 = 0 ∧ s.snd.nr34.toNat / 8 % 16 = 0
          ∧ s.snd.ch1.len ≤ 64 ∧ s.snd.env1.timer ≤ 8 ∧ s.snd.sweep.timer ≤ 8)
      ∧ (∀ boot, p.bootRom = some boot →
          s.regs.pc = 0x0000 ∧ s.bootOff = false ∧ (∀ k, k < 256 → s.busRead (BitVec.ofNat 16 k) = boot.getD k 0)
          ∧ s.irq.iflag = 0 ∧ s.timer = { sys := 0, tima := 0, tma := 0, tac := 0 }
          ∧ s.pic = { lcdc := 0, statEn := 0, scy := 0, scx := 0, lyc := 0, dma := 0, bgp := 0, obp0 := 0, obp1 := 0
                      wy := 0, wx := 0, ly := 0, u := 0, mode := .hblank, coinc := false, winLine := 0
                      lineSprites := [], frameDone := false, offCount := 0, lines := [] }
          ∧ s.snd = {
              nr10 := 0, nr11 := 0, nr12 := 0, nr13 := 0, nr14 := 0, nr21 := 0, nr22 := 0, nr23 := 0, nr24 := 0
              nr30 := 0, nr31 := 0, nr32 := 0, nr33 := 0, nr34 := 0, nr41 := 0, nr42 := 0, nr43 := 0, nr44 := 0
              nr50 := 0, nr51 := 0, power := false
              ch1 := { active := false, len := 0 }, ch2 := { active := false, len := 0 }
              ch3 := { active := false, len := 0 }, ch4 := { active := false, len := 0 }
              env1 := { vol := 0, timer := 0 }, env2 := { vol := 0, timer := 0 }, env4 := { vol := 0, timer := 0 }
              sweep := { shadow := 0, timer := 0, en := false }, lfsr := 0x7FFF
              fsCount := 0, fsStep := 0, sampleCount := 0, samples := [] }))
    ∧ ((∃ s, State.launch p = .ok s) ↔
        (cartByte p.cart 0x148).toNat ≤ 8 ∧ p.cart.length = 32768 * 2 ^ (cartByte p.cart 0x148).toNat
        ∧ (∀ boot, p.bootRom = some boot → boot.length = 256) ∧ p.samplePeriod ≠ 0)

/-- The state right after reset meets the invariant, and it is the launch of a blank cartridge. -/
def Obligations.ResetMeetsInv : Prop := State.reset.Inv ∧ State.launch LaunchParams.default = .ok State.reset

/-- EVERY STEP KEEPS THE INVARIANT: from every state that meets it, whatever the step does (20_memory.md R80, R127, 10_state.md R68, R76,
60_exceptions.md R601, R610, R666, R690): memories stay canonical and inside their sizes, the PictureTimer stays in its sequence, the sound counters in
their ranges with no channel active with its DAC or the power off, a bank field that aliases 0 never holds 0, and HALT's
repeat happens only with HALT_BUG. -/
def Obligations.StepKeepsInv : Prop := ∀ s t : State, s.Inv → step s = .next t → t.Inv

/-- No step and no host action changes what the launch fixed, the cartridge image and the boot overlay among it (20_memory.md R91), and
the boot overlay that is off stays off (10_state.md R77). -/
def Obligations.FixedPartKept : Prop :=
  ∀ s t : State, (step s = .next t ∨ ∃ a, t = s.hostAct a) →
    t.fixed = s.fixed ∧ (s.bootOff = true → t.bootOff = true)

/-- Every state that a run reaches, from any launch and through any steps and host actions, meets the invariant, and the
machine never stops: it always answers a next state, later by 1 to 6 M-cycles. -/
def Obligations.ReachableMeetsInv : Prop :=
  ∀ s : State, Reachable s → s.Inv ∧ ∃ t, step s = .next t ∧ Reachable t ∧ s.cycles < t.cycles ∧ t.cycles ≤ s.cycles + 6
end

