-- ==== Sys2Proof/Laws/State.lean ====
section
/-! SUPPORT. One lemma per field and per update of the state, so that no proof unfolds a record update. -/

namespace Sys2Proof.Machine


/-! #### `setBc` -/

@[simp] theorem State.setBc_ctl (s : State) (v : Word) : (s.setBc v).ctl = s.ctl := rfl
@[simp] theorem State.setBc_cycles (s : State) (v : Word) : (s.setBc v).cycles = s.cycles := rfl
@[simp] theorem State.setBc_irq (s : State) (v : Word) : (s.setBc v).irq = s.irq := rfl
@[simp] theorem State.setBc_timer (s : State) (v : Word) : (s.setBc v).timer = s.timer := rfl
@[simp] theorem State.setBc_joy (s : State) (v : Word) : (s.setBc v).joy = s.joy := rfl
@[simp] theorem State.setBc_ser (s : State) (v : Word) : (s.setBc v).ser = s.ser := rfl
@[simp] theorem State.setBc_pic (s : State) (v : Word) : (s.setBc v).pic = s.pic := rfl
@[simp] theorem State.setBc_snd (s : State) (v : Word) : (s.setBc v).snd = s.snd := rfl
@[simp] theorem State.setBc_bank (s : State) (v : Word) : (s.setBc v).bank = s.bank := rfl
@[simp] theorem State.setBc_mem (s : State) (v : Word) : (s.setBc v).mem = s.mem := rfl
@[simp] theorem State.setBc_bootRom (s : State) (v : Word) : (s.setBc v).bootRom = s.bootRom := rfl
@[simp] theorem State.setBc_bootOff (s : State) (v : Word) : (s.setBc v).bootOff = s.bootOff := rfl
@[simp] theorem State.setBc_mapperUnsupported (s : State) (v : Word) : (s.setBc v).mapperUnsupported = s.mapperUnsupported := rfl
@[simp] theorem State.setBc_haltBug (s : State) (v : Word) : (s.setBc v).haltBug = s.haltBug := rfl
@[simp] theorem State.setBc_samplePeriod (s : State) (v : Word) : (s.setBc v).samplePeriod = s.samplePeriod := rfl
@[simp] theorem State.setBc_regs_a (s : State) (v : Word) : (s.setBc v).regs.a = s.regs.a := rfl
@[simp] theorem State.setBc_regs_b (s : State) (v : Word) : (s.setBc v).regs.b = v.hi := rfl
@[simp] theorem State.setBc_regs_c (s : State) (v : Word) : (s.setBc v).regs.c = v.lo := rfl
@[simp] theorem State.setBc_regs_d (s : State) (v : Word) : (s.setBc v).regs.d = s.regs.d := rfl
@[simp] theorem State.setBc_regs_e (s : State) (v : Word) : (s.setBc v).regs.e = s.regs.e := rfl
@[simp] theorem State.setBc_regs_h (s : State) (v : Word) : (s.setBc v).regs.h = s.regs.h := rfl
@[simp] theorem State.setBc_regs_l (s : State) (v : Word) : (s.setBc v).regs.l = s.regs.l := rfl
@[simp] theorem State.setBc_regs_fz (s : State) (v : Word) : (s.setBc v).regs.fz = s.regs.fz := rfl
@[simp] theorem State.setBc_regs_fn (s : State) (v : Word) : (s.setBc v).regs.fn = s.regs.fn := rfl
@[simp] theorem State.setBc_regs_fh (s : State) (v : Word) : (s.setBc v).regs.fh = s.regs.fh := rfl
@[simp] theorem State.setBc_regs_fc (s : State) (v : Word) : (s.setBc v).regs.fc = s.regs.fc := rfl
@[simp] theorem State.setBc_regs_sp (s : State) (v : Word) : (s.setBc v).regs.sp = s.regs.sp := rfl
@[simp] theorem State.setBc_regs_pc (s : State) (v : Word) : (s.setBc v).regs.pc = s.regs.pc := rfl

/-! #### `setDe` -/

@[simp] theorem State.setDe_ctl (s : State) (v : Word) : (s.setDe v).ctl = s.ctl := rfl
@[simp] theorem State.setDe_cycles (s : State) (v : Word) : (s.setDe v).cycles = s.cycles := rfl
@[simp] theorem State.setDe_irq (s : State) (v : Word) : (s.setDe v).irq = s.irq := rfl
@[simp] theorem State.setDe_timer (s : State) (v : Word) : (s.setDe v).timer = s.timer := rfl
@[simp] theorem State.setDe_joy (s : State) (v : Word) : (s.setDe v).joy = s.joy := rfl
@[simp] theorem State.setDe_ser (s : State) (v : Word) : (s.setDe v).ser = s.ser := rfl
@[simp] theorem State.setDe_pic (s : State) (v : Word) : (s.setDe v).pic = s.pic := rfl
@[simp] theorem State.setDe_snd (s : State) (v : Word) : (s.setDe v).snd = s.snd := rfl
@[simp] theorem State.setDe_bank (s : State) (v : Word) : (s.setDe v).bank = s.bank := rfl
@[simp] theorem State.setDe_mem (s : State) (v : Word) : (s.setDe v).mem = s.mem := rfl
@[simp] theorem State.setDe_bootRom (s : State) (v : Word) : (s.setDe v).bootRom = s.bootRom := rfl
@[simp] theorem State.setDe_bootOff (s : State) (v : Word) : (s.setDe v).bootOff = s.bootOff := rfl
@[simp] theorem State.setDe_mapperUnsupported (s : State) (v : Word) : (s.setDe v).mapperUnsupported = s.mapperUnsupported := rfl
@[simp] theorem State.setDe_haltBug (s : State) (v : Word) : (s.setDe v).haltBug = s.haltBug := rfl
@[simp] theorem State.setDe_samplePeriod (s : State) (v : Word) : (s.setDe v).samplePeriod = s.samplePeriod := rfl
@[simp] theorem State.setDe_regs_a (s : State) (v : Word) : (s.setDe v).regs.a = s.regs.a := rfl
@[simp] theorem State.setDe_regs_b (s : State) (v : Word) : (s.setDe v).regs.b = s.regs.b := rfl
@[simp] theorem State.setDe_regs_c (s : State) (v : Word) : (s.setDe v).regs.c = s.regs.c := rfl
@[simp] theorem State.setDe_regs_d (s : State) (v : Word) : (s.setDe v).regs.d = v.hi := rfl
@[simp] theorem State.setDe_regs_e (s : State) (v : Word) : (s.setDe v).regs.e = v.lo := rfl
@[simp] theorem State.setDe_regs_h (s : State) (v : Word) : (s.setDe v).regs.h = s.regs.h := rfl
@[simp] theorem State.setDe_regs_l (s : State) (v : Word) : (s.setDe v).regs.l = s.regs.l := rfl
@[simp] theorem State.setDe_regs_fz (s : State) (v : Word) : (s.setDe v).regs.fz = s.regs.fz := rfl
@[simp] theorem State.setDe_regs_fn (s : State) (v : Word) : (s.setDe v).regs.fn = s.regs.fn := rfl
@[simp] theorem State.setDe_regs_fh (s : State) (v : Word) : (s.setDe v).regs.fh = s.regs.fh := rfl
@[simp] theorem State.setDe_regs_fc (s : State) (v : Word) : (s.setDe v).regs.fc = s.regs.fc := rfl
@[simp] theorem State.setDe_regs_sp (s : State) (v : Word) : (s.setDe v).regs.sp = s.regs.sp := rfl
@[simp] theorem State.setDe_regs_pc (s : State) (v : Word) : (s.setDe v).regs.pc = s.regs.pc := rfl

/-! #### `setHl` -/

@[simp] theorem State.setHl_ctl (s : State) (v : Word) : (s.setHl v).ctl = s.ctl := rfl
@[simp] theorem State.setHl_cycles (s : State) (v : Word) : (s.setHl v).cycles = s.cycles := rfl
@[simp] theorem State.setHl_irq (s : State) (v : Word) : (s.setHl v).irq = s.irq := rfl
@[simp] theorem State.setHl_timer (s : State) (v : Word) : (s.setHl v).timer = s.timer := rfl
@[simp] theorem State.setHl_joy (s : State) (v : Word) : (s.setHl v).joy = s.joy := rfl
@[simp] theorem State.setHl_ser (s : State) (v : Word) : (s.setHl v).ser = s.ser := rfl
@[simp] theorem State.setHl_pic (s : State) (v : Word) : (s.setHl v).pic = s.pic := rfl
@[simp] theorem State.setHl_snd (s : State) (v : Word) : (s.setHl v).snd = s.snd := rfl
@[simp] theorem State.setHl_bank (s : State) (v : Word) : (s.setHl v).bank = s.bank := rfl
@[simp] theorem State.setHl_mem (s : State) (v : Word) : (s.setHl v).mem = s.mem := rfl
@[simp] theorem State.setHl_bootRom (s : State) (v : Word) : (s.setHl v).bootRom = s.bootRom := rfl
@[simp] theorem State.setHl_bootOff (s : State) (v : Word) : (s.setHl v).bootOff = s.bootOff := rfl
@[simp] theorem State.setHl_mapperUnsupported (s : State) (v : Word) : (s.setHl v).mapperUnsupported = s.mapperUnsupported := rfl
@[simp] theorem State.setHl_haltBug (s : State) (v : Word) : (s.setHl v).haltBug = s.haltBug := rfl
@[simp] theorem State.setHl_samplePeriod (s : State) (v : Word) : (s.setHl v).samplePeriod = s.samplePeriod := rfl
@[simp] theorem State.setHl_regs_a (s : State) (v : Word) : (s.setHl v).regs.a = s.regs.a := rfl
@[simp] theorem State.setHl_regs_b (s : State) (v : Word) : (s.setHl v).regs.b = s.regs.b := rfl
@[simp] theorem State.setHl_regs_c (s : State) (v : Word) : (s.setHl v).regs.c = s.regs.c := rfl
@[simp] theorem State.setHl_regs_d (s : State) (v : Word) : (s.setHl v).regs.d = s.regs.d := rfl
@[simp] theorem State.setHl_regs_e (s : State) (v : Word) : (s.setHl v).regs.e = s.regs.e := rfl
@[simp] theorem State.setHl_regs_h (s : State) (v : Word) : (s.setHl v).regs.h = v.hi := rfl
@[simp] theorem State.setHl_regs_l (s : State) (v : Word) : (s.setHl v).regs.l = v.lo := rfl
@[simp] theorem State.setHl_regs_fz (s : State) (v : Word) : (s.setHl v).regs.fz = s.regs.fz := rfl
@[simp] theorem State.setHl_regs_fn (s : State) (v : Word) : (s.setHl v).regs.fn = s.regs.fn := rfl
@[simp] theorem State.setHl_regs_fh (s : State) (v : Word) : (s.setHl v).regs.fh = s.regs.fh := rfl
@[simp] theorem State.setHl_regs_fc (s : State) (v : Word) : (s.setHl v).regs.fc = s.regs.fc := rfl
@[simp] theorem State.setHl_regs_sp (s : State) (v : Word) : (s.setHl v).regs.sp = s.regs.sp := rfl
@[simp] theorem State.setHl_regs_pc (s : State) (v : Word) : (s.setHl v).regs.pc = s.regs.pc := rfl

/-! #### `setSp` -/

@[simp] theorem State.setSp_ctl (s : State) (v : Word) : (s.setSp v).ctl = s.ctl := rfl
@[simp] theorem State.setSp_cycles (s : State) (v : Word) : (s.setSp v).cycles = s.cycles := rfl
@[simp] theorem State.setSp_irq (s : State) (v : Word) : (s.setSp v).irq = s.irq := rfl
@[simp] theorem State.setSp_timer (s : State) (v : Word) : (s.setSp v).timer = s.timer := rfl
@[simp] theorem State.setSp_joy (s : State) (v : Word) : (s.setSp v).joy = s.joy := rfl
@[simp] theorem State.setSp_ser (s : State) (v : Word) : (s.setSp v).ser = s.ser := rfl
@[simp] theorem State.setSp_pic (s : State) (v : Word) : (s.setSp v).pic = s.pic := rfl
@[simp] theorem State.setSp_snd (s : State) (v : Word) : (s.setSp v).snd = s.snd := rfl
@[simp] theorem State.setSp_bank (s : State) (v : Word) : (s.setSp v).bank = s.bank := rfl
@[simp] theorem State.setSp_mem (s : State) (v : Word) : (s.setSp v).mem = s.mem := rfl
@[simp] theorem State.setSp_bootRom (s : State) (v : Word) : (s.setSp v).bootRom = s.bootRom := rfl
@[simp] theorem State.setSp_bootOff (s : State) (v : Word) : (s.setSp v).bootOff = s.bootOff := rfl
@[simp] theorem State.setSp_mapperUnsupported (s : State) (v : Word) : (s.setSp v).mapperUnsupported = s.mapperUnsupported := rfl
@[simp] theorem State.setSp_haltBug (s : State) (v : Word) : (s.setSp v).haltBug = s.haltBug := rfl
@[simp] theorem State.setSp_samplePeriod (s : State) (v : Word) : (s.setSp v).samplePeriod = s.samplePeriod := rfl
@[simp] theorem State.setSp_regs_a (s : State) (v : Word) : (s.setSp v).regs.a = s.regs.a := rfl
@[simp] theorem State.setSp_regs_b (s : State) (v : Word) : (s.setSp v).regs.b = s.regs.b := rfl
@[simp] theorem State.setSp_regs_c (s : State) (v : Word) : (s.setSp v).regs.c = s.regs.c := rfl
@[simp] theorem State.setSp_regs_d (s : State) (v : Word) : (s.setSp v).regs.d = s.regs.d := rfl
@[simp] theorem State.setSp_regs_e (s : State) (v : Word) : (s.setSp v).regs.e = s.regs.e := rfl
@[simp] theorem State.setSp_regs_h (s : State) (v : Word) : (s.setSp v).regs.h = s.regs.h := rfl
@[simp] theorem State.setSp_regs_l (s : State) (v : Word) : (s.setSp v).regs.l = s.regs.l := rfl
@[simp] theorem State.setSp_regs_fz (s : State) (v : Word) : (s.setSp v).regs.fz = s.regs.fz := rfl
@[simp] theorem State.setSp_regs_fn (s : State) (v : Word) : (s.setSp v).regs.fn = s.regs.fn := rfl
@[simp] theorem State.setSp_regs_fh (s : State) (v : Word) : (s.setSp v).regs.fh = s.regs.fh := rfl
@[simp] theorem State.setSp_regs_fc (s : State) (v : Word) : (s.setSp v).regs.fc = s.regs.fc := rfl
@[simp] theorem State.setSp_regs_sp (s : State) (v : Word) : (s.setSp v).regs.sp = v := rfl
@[simp] theorem State.setSp_regs_pc (s : State) (v : Word) : (s.setSp v).regs.pc = s.regs.pc := rfl

/-! #### `setPc` -/

@[simp] theorem State.setPc_ctl (s : State) (v : Word) : (s.setPc v).ctl = s.ctl := rfl
@[simp] theorem State.setPc_cycles (s : State) (v : Word) : (s.setPc v).cycles = s.cycles := rfl
@[simp] theorem State.setPc_irq (s : State) (v : Word) : (s.setPc v).irq = s.irq := rfl
@[simp] theorem State.setPc_timer (s : State) (v : Word) : (s.setPc v).timer = s.timer := rfl
@[simp] theorem State.setPc_joy (s : State) (v : Word) : (s.setPc v).joy = s.joy := rfl
@[simp] theorem State.setPc_ser (s : State) (v : Word) : (s.setPc v).ser = s.ser := rfl
@[simp] theorem State.setPc_pic (s : State) (v : Word) : (s.setPc v).pic = s.pic := rfl
@[simp] theorem State.setPc_snd (s : State) (v : Word) : (s.setPc v).snd = s.snd := rfl
@[simp] theorem State.setPc_bank (s : State) (v : Word) : (s.setPc v).bank = s.bank := rfl
@[simp] theorem State.setPc_mem (s : State) (v : Word) : (s.setPc v).mem = s.mem := rfl
@[simp] theorem State.setPc_bootRom (s : State) (v : Word) : (s.setPc v).bootRom = s.bootRom := rfl
@[simp] theorem State.setPc_bootOff (s : State) (v : Word) : (s.setPc v).bootOff = s.bootOff := rfl
@[simp] theorem State.setPc_mapperUnsupported (s : State) (v : Word) : (s.setPc v).mapperUnsupported = s.mapperUnsupported := rfl
@[simp] theorem State.setPc_haltBug (s : State) (v : Word) : (s.setPc v).haltBug = s.haltBug := rfl
@[simp] theorem State.setPc_samplePeriod (s : State) (v : Word) : (s.setPc v).samplePeriod = s.samplePeriod := rfl
@[simp] theorem State.setPc_regs_a (s : State) (v : Word) : (s.setPc v).regs.a = s.regs.a := rfl
@[simp] theorem State.setPc_regs_b (s : State) (v : Word) : (s.setPc v).regs.b = s.regs.b := rfl
@[simp] theorem State.setPc_regs_c (s : State) (v : Word) : (s.setPc v).regs.c = s.regs.c := rfl
@[simp] theorem State.setPc_regs_d (s : State) (v : Word) : (s.setPc v).regs.d = s.regs.d := rfl
@[simp] theorem State.setPc_regs_e (s : State) (v : Word) : (s.setPc v).regs.e = s.regs.e := rfl
@[simp] theorem State.setPc_regs_h (s : State) (v : Word) : (s.setPc v).regs.h = s.regs.h := rfl
@[simp] theorem State.setPc_regs_l (s : State) (v : Word) : (s.setPc v).regs.l = s.regs.l := rfl
@[simp] theorem State.setPc_regs_fz (s : State) (v : Word) : (s.setPc v).regs.fz = s.regs.fz := rfl
@[simp] theorem State.setPc_regs_fn (s : State) (v : Word) : (s.setPc v).regs.fn = s.regs.fn := rfl
@[simp] theorem State.setPc_regs_fh (s : State) (v : Word) : (s.setPc v).regs.fh = s.regs.fh := rfl
@[simp] theorem State.setPc_regs_fc (s : State) (v : Word) : (s.setPc v).regs.fc = s.regs.fc := rfl
@[simp] theorem State.setPc_regs_sp (s : State) (v : Word) : (s.setPc v).regs.sp = s.regs.sp := rfl
@[simp] theorem State.setPc_regs_pc (s : State) (v : Word) : (s.setPc v).regs.pc = v := rfl

/-! #### `setFlags` -/

@[simp] theorem State.setFlags_ctl (s : State) (z n h c : Bool) : (s.setFlags z n h c).ctl = s.ctl := rfl
@[simp] theorem State.setFlags_cycles (s : State) (z n h c : Bool) : (s.setFlags z n h c).cycles = s.cycles := rfl
@[simp] theorem State.setFlags_irq (s : State) (z n h c : Bool) : (s.setFlags z n h c).irq = s.irq := rfl
@[simp] theorem State.setFlags_timer (s : State) (z n h c : Bool) : (s.setFlags z n h c).timer = s.timer := rfl
@[simp] theorem State.setFlags_joy (s : State) (z n h c : Bool) : (s.setFlags z n h c).joy = s.joy := rfl
@[simp] theorem State.setFlags_ser (s : State) (z n h c : Bool) : (s.setFlags z n h c).ser = s.ser := rfl
@[simp] theorem State.setFlags_pic (s : State) (z n h c : Bool) : (s.setFlags z n h c).pic = s.pic := rfl
@[simp] theorem State.setFlags_snd (s : State) (z n h c : Bool) : (s.setFlags z n h c).snd = s.snd := rfl
@[simp] theorem State.setFlags_bank (s : State) (z n h c : Bool) : (s.setFlags z n h c).bank = s.bank := rfl
@[simp] theorem State.setFlags_mem (s : State) (z n h c : Bool) : (s.setFlags z n h c).mem = s.mem := rfl
@[simp] theorem State.setFlags_bootRom (s : State) (z n h c : Bool) : (s.setFlags z n h c).bootRom = s.bootRom := rfl
@[simp] theorem State.setFlags_bootOff (s : State) (z n h c : Bool) : (s.setFlags z n h c).bootOff = s.bootOff := rfl
@[simp] theorem State.setFlags_mapperUnsupported (s : State) (z n h c : Bool) : (s.setFlags z n h c).mapperUnsupported = s.mapperUnsupported := rfl
@[simp] theorem State.setFlags_haltBug (s : State) (z n h c : Bool) : (s.setFlags z n h c).haltBug = s.haltBug := rfl
@[simp] theorem State.setFlags_samplePeriod (s : State) (z n h c : Bool) : (s.setFlags z n h c).samplePeriod = s.samplePeriod := rfl
@[simp] theorem State.setFlags_regs_a (s : State) (z n h c : Bool) : (s.setFlags z n h c).regs.a = s.regs.a := rfl
@[simp] theorem State.setFlags_regs_b (s : State) (z n h c : Bool) : (s.setFlags z n h c).regs.b = s.regs.b := rfl
@[simp] theorem State.setFlags_regs_c (s : State) (z n h c : Bool) : (s.setFlags z n h c).regs.c = s.regs.c := rfl
@[simp] theorem State.setFlags_regs_d (s : State) (z n h c : Bool) : (s.setFlags z n h c).regs.d = s.regs.d := rfl
@[simp] theorem State.setFlags_regs_e (s : State) (z n h c : Bool) : (s.setFlags z n h c).regs.e = s.regs.e := rfl
@[simp] theorem State.setFlags_regs_h (s : State) (z n h c : Bool) : (s.setFlags z n h c).regs.h = s.regs.h := rfl
@[simp] theorem State.setFlags_regs_l (s : State) (z n h c : Bool) : (s.setFlags z n h c).regs.l = s.regs.l := rfl
@[simp] theorem State.setFlags_regs_fz (s : State) (z n h c : Bool) : (s.setFlags z n h c).regs.fz = z := rfl
@[simp] theorem State.setFlags_regs_fn (s : State) (z n h c : Bool) : (s.setFlags z n h c).regs.fn = n := rfl
@[simp] theorem State.setFlags_regs_fh (s : State) (z n h c : Bool) : (s.setFlags z n h c).regs.fh = h := rfl
@[simp] theorem State.setFlags_regs_fc (s : State) (z n h c : Bool) : (s.setFlags z n h c).regs.fc = c := rfl
@[simp] theorem State.setFlags_regs_sp (s : State) (z n h c : Bool) : (s.setFlags z n h c).regs.sp = s.regs.sp := rfl
@[simp] theorem State.setFlags_regs_pc (s : State) (z n h c : Bool) : (s.setFlags z n h c).regs.pc = s.regs.pc := rfl

/-! #### `setAf` -/

@[simp] theorem State.setAf_ctl (s : State) (v : Word) : (s.setAf v).ctl = s.ctl := rfl
@[simp] theorem State.setAf_cycles (s : State) (v : Word) : (s.setAf v).cycles = s.cycles := rfl
@[simp] theorem State.setAf_irq (s : State) (v : Word) : (s.setAf v).irq = s.irq := rfl
@[simp] theorem State.setAf_timer (s : State) (v : Word) : (s.setAf v).timer = s.timer := rfl
@[simp] theorem State.setAf_joy (s : State) (v : Word) : (s.setAf v).joy = s.joy := rfl
@[simp] theorem State.setAf_ser (s : State) (v : Word) : (s.setAf v).ser = s.ser := rfl
@[simp] theorem State.setAf_pic (s : State) (v : Word) : (s.setAf v).pic = s.pic := rfl
@[simp] theorem State.setAf_snd (s : State) (v : Word) : (s.setAf v).snd = s.snd := rfl
@[simp] theorem State.setAf_bank (s : State) (v : Word) : (s.setAf v).bank = s.bank := rfl
@[simp] theorem State.setAf_mem (s : State) (v : Word) : (s.setAf v).mem = s.mem := rfl
@[simp] theorem State.setAf_bootRom (s : State) (v : Word) : (s.setAf v).bootRom = s.bootRom := rfl
@[simp] theorem State.setAf_bootOff (s : State) (v : Word) : (s.setAf v).bootOff = s.bootOff := rfl
@[simp] theorem State.setAf_mapperUnsupported (s : State) (v : Word) : (s.setAf v).mapperUnsupported = s.mapperUnsupported := rfl
@[simp] theorem State.setAf_haltBug (s : State) (v : Word) : (s.setAf v).haltBug = s.haltBug := rfl
@[simp] theorem State.setAf_samplePeriod (s : State) (v : Word) : (s.setAf v).samplePeriod = s.samplePeriod := rfl
@[simp] theorem State.setAf_regs_a (s : State) (v : Word) : (s.setAf v).regs.a = v.hi := rfl
@[simp] theorem State.setAf_regs_b (s : State) (v : Word) : (s.setAf v).regs.b = s.regs.b := rfl
@[simp] theorem State.setAf_regs_c (s : State) (v : Word) : (s.setAf v).regs.c = s.regs.c := rfl
@[simp] theorem State.setAf_regs_d (s : State) (v : Word) : (s.setAf v).regs.d = s.regs.d := rfl
@[simp] theorem State.setAf_regs_e (s : State) (v : Word) : (s.setAf v).regs.e = s.regs.e := rfl
@[simp] theorem State.setAf_regs_h (s : State) (v : Word) : (s.setAf v).regs.h = s.regs.h := rfl
@[simp] theorem State.setAf_regs_l (s : State) (v : Word) : (s.setAf v).regs.l = s.regs.l := rfl
@[simp] theorem State.setAf_regs_fz (s : State) (v : Word) : (s.setAf v).regs.fz = v.getLsbD 7 := rfl
@[simp] theorem State.setAf_regs_fn (s : State) (v : Word) : (s.setAf v).regs.fn = v.getLsbD 6 := rfl
@[simp] theorem State.setAf_regs_fh (s : State) (v : Word) : (s.setAf v).regs.fh = v.getLsbD 5 := rfl
@[simp] theorem State.setAf_regs_fc (s : State) (v : Word) : (s.setAf v).regs.fc = v.getLsbD 4 := rfl
@[simp] theorem State.setAf_regs_sp (s : State) (v : Word) : (s.setAf v).regs.sp = s.regs.sp := rfl
@[simp] theorem State.setAf_regs_pc (s : State) (v : Word) : (s.setAf v).regs.pc = s.regs.pc := rfl

/-! #### `setReg` -/

@[simp] theorem State.setReg_ctl (s : State) (r : Reg8) (v : Byte) : (s.setReg r v).ctl = s.ctl := by cases r <;> rfl
@[simp] theorem State.setReg_cycles (s : State) (r : Reg8) (v : Byte) : (s.setReg r v).cycles = s.cycles := by cases r <;> rfl
@[simp] theorem State.setReg_irq (s : State) (r : Reg8) (v : Byte) : (s.setReg r v).irq = s.irq := by cases r <;> rfl
@[simp] theorem State.setReg_timer (s : State) (r : Reg8) (v : Byte) : (s.setReg r v).timer = s.timer := by cases r <;> rfl
@[simp] theorem State.setReg_joy (s : State) (r : Reg8) (v : Byte) : (s.setReg r v).joy = s.joy := by cases r <;> rfl
@[simp] theorem State.setReg_ser (s : State) (r : Reg8) (v : Byte) : (s.setReg r v).ser = s.ser := by cases r <;> rfl
@[simp] theorem State.setReg_pic (s : State) (r : Reg8) (v : Byte) : (s.setReg r v).pic = s.pic := by cases r <;> rfl
@[simp] theorem State.setReg_snd (s : State) (r : Reg8) (v : Byte) : (s.setReg r v).snd = s.snd := by cases r <;> rfl
@[simp] theorem State.setReg_bank (s : State) (r : Reg8) (v : Byte) : (s.setReg r v).bank = s.bank := by cases r <;> rfl
@[simp] theorem State.setReg_mem (s : State) (r : Reg8) (v : Byte) : (s.setReg r v).mem = s.mem := by cases r <;> rfl
@[simp] theorem State.setReg_bootRom (s : State) (r : Reg8) (v : Byte) : (s.setReg r v).bootRom = s.bootRom := by cases r <;> rfl
@[simp] theorem State.setReg_bootOff (s : State) (r : Reg8) (v : Byte) : (s.setReg r v).bootOff = s.bootOff := by cases r <;> rfl
@[simp] theorem State.setReg_mapperUnsupported (s : State) (r : Reg8) (v : Byte) : (s.setReg r v).mapperUnsupported = s.mapperUnsupported := by cases r <;> rfl
@[simp] theorem State.setReg_haltBug (s : State) (r : Reg8) (v : Byte) : (s.setReg r v).haltBug = s.haltBug := by cases r <;> rfl
@[simp] theorem State.setReg_samplePeriod (s : State) (r : Reg8) (v : Byte) : (s.setReg r v).samplePeriod = s.samplePeriod := by cases r <;> rfl
@[simp] theorem State.setReg_regs_fz (s : State) (r : Reg8) (v : Byte) : (s.setReg r v).regs.fz = s.regs.fz := by cases r <;> rfl
@[simp] theorem State.setReg_regs_fn (s : State) (r : Reg8) (v : Byte) : (s.setReg r v).regs.fn = s.regs.fn := by cases r <;> rfl
@[simp] theorem State.setReg_regs_fh (s : State) (r : Reg8) (v : Byte) : (s.setReg r v).regs.fh = s.regs.fh := by cases r <;> rfl
@[simp] theorem State.setReg_regs_fc (s : State) (r : Reg8) (v : Byte) : (s.setReg r v).regs.fc = s.regs.fc := by cases r <;> rfl
@[simp] theorem State.setReg_regs_sp (s : State) (r : Reg8) (v : Byte) : (s.setReg r v).regs.sp = s.regs.sp := by cases r <;> rfl
@[simp] theorem State.setReg_regs_pc (s : State) (r : Reg8) (v : Byte) : (s.setReg r v).regs.pc = s.regs.pc := by cases r <;> rfl
@[simp] theorem State.reg_setReg_same (s : State) (r : Reg8) (v : Byte) : (s.setReg r v).reg r = v := by cases r <;> rfl

theorem State.reg_setReg_ne (s : State) {q r : Reg8} (v : Byte) (h : q ≠ r) : (s.setReg r v).reg q = s.reg q := by
  cases q <;> cases r <;> first | rfl | exact absurd rfl h

@[simp] theorem State.reg_setFlags (s : State) (z n h c : Bool) (q : Reg8) : (s.setFlags z n h c).reg q = s.reg q := by cases q <;> rfl
@[simp] theorem State.reg_setSp (s : State) (v : Word) (q : Reg8) : (s.setSp v).reg q = s.reg q := by cases q <;> rfl
@[simp] theorem State.reg_setPc (s : State) (v : Word) (q : Reg8) : (s.setPc v).reg q = s.reg q := by cases q <;> rfl

/-! #### `request` -/

@[simp] theorem State.request_regs (s : State) (k : Nat) : (s.request k).regs = s.regs := rfl
@[simp] theorem State.request_ctl (s : State) (k : Nat) : (s.request k).ctl = s.ctl := rfl
@[simp] theorem State.request_cycles (s : State) (k : Nat) : (s.request k).cycles = s.cycles := rfl
@[simp] theorem State.request_timer (s : State) (k : Nat) : (s.request k).timer = s.timer := rfl
@[simp] theorem State.request_joy (s : State) (k : Nat) : (s.request k).joy = s.joy := rfl
@[simp] theorem State.request_ser (s : State) (k : Nat) : (s.request k).ser = s.ser := rfl
@[simp] theorem State.request_pic (s : State) (k : Nat) : (s.request k).pic = s.pic := rfl
@[simp] theorem State.request_snd (s : State) (k : Nat) : (s.request k).snd = s.snd := rfl
@[simp] theorem State.request_bank (s : State) (k : Nat) : (s.request k).bank = s.bank := rfl
@[simp] theorem State.request_mem (s : State) (k : Nat) : (s.request k).mem = s.mem := rfl
@[simp] theorem State.request_bootRom (s : State) (k : Nat) : (s.request k).bootRom = s.bootRom := rfl
@[simp] theorem State.request_bootOff (s : State) (k : Nat) : (s.request k).bootOff = s.bootOff := rfl
@[simp] theorem State.request_mapperUnsupported (s : State) (k : Nat) : (s.request k).mapperUnsupported = s.mapperUnsupported := rfl
@[simp] theorem State.request_haltBug (s : State) (k : Nat) : (s.request k).haltBug = s.haltBug := rfl
@[simp] theorem State.request_samplePeriod (s : State) (k : Nat) : (s.request k).samplePeriod = s.samplePeriod := rfl

/-! #### `acknowledge` -/

@[simp] theorem State.acknowledge_regs (s : State) (k : Nat) : (s.acknowledge k).regs = s.regs := rfl
@[simp] theorem State.acknowledge_ctl (s : State) (k : Nat) : (s.acknowledge k).ctl = s.ctl := rfl
@[simp] theorem State.acknowledge_cycles (s : State) (k : Nat) : (s.acknowledge k).cycles = s.cycles := rfl
@[simp] theorem State.acknowledge_timer (s : State) (k : Nat) : (s.acknowledge k).timer = s.timer := rfl
@[simp] theorem State.acknowledge_joy (s : State) (k : Nat) : (s.acknowledge k).joy = s.joy := rfl
@[simp] theorem State.acknowledge_ser (s : State) (k : Nat) : (s.acknowledge k).ser = s.ser := rfl
@[simp] theorem State.acknowledge_pic (s : State) (k : Nat) : (s.acknowledge k).pic = s.pic := rfl
@[simp] theorem State.acknowledge_snd (s : State) (k : Nat) : (s.acknowledge k).snd = s.snd := rfl
@[simp] theorem State.acknowledge_bank (s : State) (k : Nat) : (s.acknowledge k).bank = s.bank := rfl
@[simp] theorem State.acknowledge_mem (s : State) (k : Nat) : (s.acknowledge k).mem = s.mem := rfl
@[simp] theorem State.acknowledge_bootRom (s : State) (k : Nat) : (s.acknowledge k).bootRom = s.bootRom := rfl
@[simp] theorem State.acknowledge_bootOff (s : State) (k : Nat) : (s.acknowledge k).bootOff = s.bootOff := rfl
@[simp] theorem State.acknowledge_mapperUnsupported (s : State) (k : Nat) : (s.acknowledge k).mapperUnsupported = s.mapperUnsupported := rfl
@[simp] theorem State.acknowledge_haltBug (s : State) (k : Nat) : (s.acknowledge k).haltBug = s.haltBug := rfl
@[simp] theorem State.acknowledge_samplePeriod (s : State) (k : Nat) : (s.acknowledge k).samplePeriod = s.samplePeriod := rfl

/-! #### `lock` -/

@[simp] theorem State.lock_regs (s : State) : (s.lock).regs = s.regs := rfl
@[simp] theorem State.lock_cycles (s : State) : (s.lock).cycles = s.cycles := rfl
@[simp] theorem State.lock_irq (s : State) : (s.lock).irq = s.irq := rfl
@[simp] theorem State.lock_timer (s : State) : (s.lock).timer = s.timer := rfl
@[simp] theorem State.lock_joy (s : State) : (s.lock).joy = s.joy := rfl
@[simp] theorem State.lock_ser (s : State) : (s.lock).ser = s.ser := rfl
@[simp] theorem State.lock_pic (s : State) : (s.lock).pic = s.pic := rfl
@[simp] theorem State.lock_snd (s : State) : (s.lock).snd = s.snd := rfl
@[simp] theorem State.lock_bank (s : State) : (s.lock).bank = s.bank := rfl
@[simp] theorem State.lock_mem (s : State) : (s.lock).mem = s.mem := rfl
@[simp] theorem State.lock_bootRom (s : State) : (s.lock).bootRom = s.bootRom := rfl
@[simp] theorem State.lock_bootOff (s : State) : (s.lock).bootOff = s.bootOff := rfl
@[simp] theorem State.lock_mapperUnsupported (s : State) : (s.lock).mapperUnsupported = s.mapperUnsupported := rfl
@[simp] theorem State.lock_haltBug (s : State) : (s.lock).haltBug = s.haltBug := rfl
@[simp] theorem State.lock_samplePeriod (s : State) : (s.lock).samplePeriod = s.samplePeriod := rfl

/-! #### `setIme` -/

@[simp] theorem State.setIme_regs (s : State) (b : Bool) : (s.setIme b).regs = s.regs := rfl
@[simp] theorem State.setIme_cycles (s : State) (b : Bool) : (s.setIme b).cycles = s.cycles := rfl
@[simp] theorem State.setIme_irq (s : State) (b : Bool) : (s.setIme b).irq = s.irq := rfl
@[simp] theorem State.setIme_timer (s : State) (b : Bool) : (s.setIme b).timer = s.timer := rfl
@[simp] theorem State.setIme_joy (s : State) (b : Bool) : (s.setIme b).joy = s.joy := rfl
@[simp] theorem State.setIme_ser (s : State) (b : Bool) : (s.setIme b).ser = s.ser := rfl
@[simp] theorem State.setIme_pic (s : State) (b : Bool) : (s.setIme b).pic = s.pic := rfl
@[simp] theorem State.setIme_snd (s : State) (b : Bool) : (s.setIme b).snd = s.snd := rfl
@[simp] theorem State.setIme_bank (s : State) (b : Bool) : (s.setIme b).bank = s.bank := rfl
@[simp] theorem State.setIme_mem (s : State) (b : Bool) : (s.setIme b).mem = s.mem := rfl
@[simp] theorem State.setIme_bootRom (s : State) (b : Bool) : (s.setIme b).bootRom = s.bootRom := rfl
@[simp] theorem State.setIme_bootOff (s : State) (b : Bool) : (s.setIme b).bootOff = s.bootOff := rfl
@[simp] theorem State.setIme_mapperUnsupported (s : State) (b : Bool) : (s.setIme b).mapperUnsupported = s.mapperUnsupported := rfl
@[simp] theorem State.setIme_haltBug (s : State) (b : Bool) : (s.setIme b).haltBug = s.haltBug := rfl
@[simp] theorem State.setIme_samplePeriod (s : State) (b : Bool) : (s.setIme b).samplePeriod = s.samplePeriod := rfl

/-! #### `resetDivider` -/

@[simp] theorem State.resetDivider_regs (s : State) : (s.resetDivider).regs = s.regs := rfl
@[simp] theorem State.resetDivider_ctl (s : State) : (s.resetDivider).ctl = s.ctl := rfl
@[simp] theorem State.resetDivider_cycles (s : State) : (s.resetDivider).cycles = s.cycles := rfl
@[simp] theorem State.resetDivider_irq (s : State) : (s.resetDivider).irq = s.irq := rfl
@[simp] theorem State.resetDivider_joy (s : State) : (s.resetDivider).joy = s.joy := rfl
@[simp] theorem State.resetDivider_ser (s : State) : (s.resetDivider).ser = s.ser := rfl
@[simp] theorem State.resetDivider_pic (s : State) : (s.resetDivider).pic = s.pic := rfl
@[simp] theorem State.resetDivider_snd (s : State) : (s.resetDivider).snd = s.snd := rfl
@[simp] theorem State.resetDivider_bank (s : State) : (s.resetDivider).bank = s.bank := rfl
@[simp] theorem State.resetDivider_mem (s : State) : (s.resetDivider).mem = s.mem := rfl
@[simp] theorem State.resetDivider_bootRom (s : State) : (s.resetDivider).bootRom = s.bootRom := rfl
@[simp] theorem State.resetDivider_bootOff (s : State) : (s.resetDivider).bootOff = s.bootOff := rfl
@[simp] theorem State.resetDivider_mapperUnsupported (s : State) : (s.resetDivider).mapperUnsupported = s.mapperUnsupported := rfl
@[simp] theorem State.resetDivider_haltBug (s : State) : (s.resetDivider).haltBug = s.haltBug := rfl
@[simp] theorem State.resetDivider_samplePeriod (s : State) : (s.resetDivider).samplePeriod = s.samplePeriod := rfl
@[simp] theorem State.request_ie (s : State) (k : Nat) : (s.request k).irq.ie = s.irq.ie := rfl
@[simp] theorem State.acknowledge_ie (s : State) (k : Nat) : (s.acknowledge k).irq.ie = s.irq.ie := rfl
@[simp] theorem State.request_iflag (s : State) (k : Nat) : (s.request k).irq.iflag = s.irq.iflag ||| ((1 : BitVec 5) <<< k) := rfl
@[simp] theorem State.acknowledge_iflag (s : State) (k : Nat) : (s.acknowledge k).irq.iflag = s.irq.iflag &&& ~~~ ((1 : BitVec 5) <<< k) := rfl
@[simp] theorem State.lock_locked (s : State) : s.lock.ctl.locked = true := rfl
@[simp] theorem State.setIme_ime (s : State) (b : Bool) : (s.setIme b).ctl.ime = b := rfl
@[simp] theorem State.setIme_imeSched (s : State) (b : Bool) : (s.setIme b).ctl.imeSched = false := rfl
@[simp] theorem State.setIme_halted (s : State) (b : Bool) : (s.setIme b).ctl.halted = s.ctl.halted := rfl
@[simp] theorem State.setIme_stopped (s : State) (b : Bool) : (s.setIme b).ctl.stopped = s.ctl.stopped := rfl
@[simp] theorem State.setIme_locked (s : State) (b : Bool) : (s.setIme b).ctl.locked = s.ctl.locked := rfl
@[simp] theorem State.setIme_haltbugPending (s : State) (b : Bool) : (s.setIme b).ctl.haltbugPending = s.ctl.haltbugPending := rfl

/-! #### pairs of a state whose other registers changed -/

@[simp] theorem State.bc_setFlags (s : State) (z n h c : Bool) : (s.setFlags z n h c).bc = s.bc := rfl
@[simp] theorem State.bc_setSp (s : State) (v : Word) : (s.setSp v).bc = s.bc := rfl
@[simp] theorem State.bc_setPc (s : State) (v : Word) : (s.setPc v).bc = s.bc := rfl
@[simp] theorem State.de_setFlags (s : State) (z n h c : Bool) : (s.setFlags z n h c).de = s.de := rfl
@[simp] theorem State.de_setSp (s : State) (v : Word) : (s.setSp v).de = s.de := rfl
@[simp] theorem State.de_setPc (s : State) (v : Word) : (s.setPc v).de = s.de := rfl
@[simp] theorem State.hl_setFlags (s : State) (z n h c : Bool) : (s.setFlags z n h c).hl = s.hl := rfl
@[simp] theorem State.hl_setSp (s : State) (v : Word) : (s.setSp v).hl = s.hl := rfl
@[simp] theorem State.hl_setPc (s : State) (v : Word) : (s.setPc v).hl = s.hl := rfl

end Sys2Proof.Machine
end

