-- ==== Sys2Proof/Laws/Store.lean ====
section
/-! SUPPORT. The laws of one backing memory: reading after writing, and the canonical form kept. -/

namespace Sys2Proof.Machine

@[simp] theorem Store.read_nil (a : Nat) : Store.read [] a = 0 := rfl

/-- A byte below every listed offset reads 0. -/
theorem Store.read_of_wfFrom_lt {lo size : Nat} {m : Store} (h : Store.wfFrom lo size m = true) {a : Nat} (ha : a < lo) :
    m.read a = 0 := by
  induction m generalizing lo with
  | nil => rfl
  | cons c rest ih =>
    obtain ⟨k, v⟩ := c
    simp only [Store.wfFrom, Bool.and_eq_true, decide_eq_true_eq] at h
    simp only [Store.read]
    rw [if_neg (by omega)]
    exact ih h.2 (by omega)

theorem Store.wfFrom_mono {lo lo' size : Nat} {m : Store} (h : Store.wfFrom lo size m = true) (hl : lo' ≤ lo) :
    Store.wfFrom lo' size m = true := by
  cases m with
  | nil => rfl
  | cons c rest =>
    obtain ⟨k, v⟩ := c
    simp only [Store.wfFrom, Bool.and_eq_true, decide_eq_true_eq] at h ⊢
    exact ⟨⟨⟨by omega, h.1.1.2⟩, h.1.2⟩, h.2⟩

/-- A byte written is read back. Rising offsets are what makes it so where 0x00 is written. -/
theorem Store.read_write_same {lo size : Nat} {m : Store} (h : Store.wfFrom lo size m = true) (a : Nat) (v : Byte) :
    (m.write a v).read a = v := by
  induction m generalizing lo with
  | nil =>
    simp only [Store.write]
    split <;> simp_all [Store.read]
  | cons c rest ih =>
    obtain ⟨k, w⟩ := c
    simp only [Store.wfFrom, Bool.and_eq_true, decide_eq_true_eq] at h
    have hrest : ∀ b, b < k + 1 → Store.read rest b = 0 := fun b hb => Store.read_of_wfFrom_lt h.2 hb
    simp only [Store.write]
    split
    · rename_i hak
      split
      · rename_i hv
        simp [Store.read, hv, show k ≠ a by omega, hrest a (by omega)]
      · simp [Store.read]
    · split
      · rename_i hak
        subst hak
        split
        · rename_i hv
          rw [hv]; exact hrest a (by omega)
        · simp [Store.read]
      · simp only [Store.read]
        rw [if_neg (by omega)]
        exact ih h.2

/-- A write leaves every other offset alone. -/
theorem Store.read_write_ne (m : Store) {a b : Nat} (v : Byte) (h : b ≠ a) : (m.write a v).read b = m.read b := by
  induction m with
  | nil =>
    simp only [Store.write]
    split <;> simp [Store.read, Ne.symm h]
  | cons c rest ih =>
    obtain ⟨k, w⟩ := c
    simp only [Store.write]
    split
    · split <;> simp [Store.read, Ne.symm h]
    · split
      · rename_i hak
        subst hak
        split <;> simp [Store.read, Ne.symm h]
      · simp only [Store.read]
        split
        · rfl
        · exact ih

theorem Store.wfFrom_write {lo size : Nat} {m : Store} (h : Store.wfFrom lo size m = true) {a : Nat} (hl : lo ≤ a)
    (hs : a < size) (v : Byte) : Store.wfFrom lo size (m.write a v) = true := by
  induction m generalizing lo with
  | nil =>
    simp only [Store.write]
    split <;> simp_all [Store.wfFrom]
  | cons c rest ih =>
    obtain ⟨k, w⟩ := c
    have h' := h
    simp only [Store.wfFrom, Bool.and_eq_true, decide_eq_true_eq] at h
    simp only [Store.write]
    split
    · split
      · exact h'
      · rename_i hak hv
        simp only [Store.wfFrom, Bool.and_eq_true, decide_eq_true_eq]
        exact ⟨⟨⟨hl, hs⟩, hv⟩, ⟨⟨by omega, h.1.1.2⟩, h.1.2⟩, h.2⟩
    · split
      · split
        · exact Store.wfFrom_mono h.2 (by omega)
        · rename_i hv
          simp only [Store.wfFrom, Bool.and_eq_true, decide_eq_true_eq]
          exact ⟨⟨⟨hl, hs⟩, hv⟩, by subst_vars; exact h.2⟩
      · simp only [Store.wfFrom, Bool.and_eq_true, decide_eq_true_eq]
        exact ⟨h.1, ih h.2 (by omega)⟩

/-- Every write inside the memory keeps the canonical form. -/
theorem Store.wf_write {size : Nat} {m : Store} (h : m.wf size = true) {a : Nat} (ha : a < size) (v : Byte) :
    Store.wf size (m.write a v) = true := Store.wfFrom_write h (by omega) ha v

/-- A byte written into a canonical memory is read back. -/
theorem Store.read_write_same_of_wf {size : Nat} {m : Store} (h : m.wf size = true) (a : Nat) (v : Byte) :
    (m.write a v).read a = v := Store.read_write_same h a v

/-- Every byte after a write satisfies what the byte written and the bytes before it satisfy. -/
theorem Store.all_write {m : Store} {p : Host.Cell → Bool} (h : m.all p = true) {a : Nat} {v : Byte}
    (hv : p (a, v) = true) : (m.write a v).all p = true := by
  induction m with
  | nil =>
    simp only [Store.write]
    split <;> simp [hv]
  | cons c rest ih =>
    obtain ⟨k, w⟩ := c
    simp only [List.all_cons, Bool.and_eq_true] at h
    simp only [Store.write]
    split
    · split <;> simp [h.1, h.2, hv]
    · split
      · split
        · exact h.2
        · simp [h.2, hv]
      · simp [h.1, ih h.2]

theorem Store.wfFrom_ofBytesAt (k size : Nat) (l : List Byte) (h : k + l.length ≤ size) :
    Store.wfFrom k size (Store.ofBytesAt k l) = true := by
  induction l generalizing k with
  | nil => rfl
  | cons v rest ih =>
    simp only [List.length_cons] at h
    have hr := ih (k + 1) (by omega)
    simp only [Store.ofBytesAt]
    split
    · exact Store.wfFrom_mono hr (by omega)
    · rename_i hv
      simp only [Store.wfFrom, Bool.and_eq_true, decide_eq_true_eq]
      exact ⟨⟨⟨by omega, by omega⟩, hv⟩, hr⟩

/-- A byte string of at most `size` bytes gives a canonical memory. -/
theorem Store.wf_ofBytes {size : Nat} {l : List Byte} (h : l.length ≤ size) : (Store.ofBytes l).wf size = true :=
  Store.wfFrom_ofBytesAt 0 size l (by omega)

theorem Store.read_ofBytesAt (k : Nat) (l : List Byte) (i : Nat) :
    (Store.ofBytesAt k l).read (k + i) = l.getD i 0 := by
  induction l generalizing k i with
  | nil => simp [Store.ofBytesAt]
  | cons v rest ih =>
    have hlow : ∀ m : Nat, m < k + 1 → (Store.ofBytesAt (k + 1) rest).read m = 0 := fun m hm =>
      Store.read_of_wfFrom_lt (Store.wfFrom_ofBytesAt (k + 1) (k + 1 + rest.length) rest (by omega)) hm
    cases i with
    | zero =>
      simp only [Store.ofBytesAt]
      split
      · rename_i hv; simp [hv, hlow k (by omega)]
      · simp [Store.read]
    | succ j =>
      have hj := ih (k + 1) j
      have e : k + (j + 1) = k + 1 + j := by omega
      simp only [Store.ofBytesAt]
      split
      · rw [e, hj]; simp
      · simp only [Store.read]
        rw [if_neg (by omega), e, hj]; simp

/-- A byte of a byte string, 0x00 past its end. -/
theorem Store.read_ofBytes (l : List Byte) (i : Nat) : (Store.ofBytes l).read i = l.getD i 0 := by
  have h := Store.read_ofBytesAt 0 l i
  rwa [Nat.zero_add] at h

theorem Store.ofBytesAt_replicate_zero (k n : Nat) : Store.ofBytesAt k (List.replicate n 0) = [] := by
  induction n generalizing k with
  | zero => rfl
  | succ n ih =>
    rw [List.replicate_succ, Store.ofBytesAt, if_pos rfl]
    exact ih (k + 1)

/-- A string of zero bytes lists nothing. -/
theorem Store.ofBytes_replicate_zero (n : Nat) : Store.ofBytes (List.replicate n 0) = [] :=
  Store.ofBytesAt_replicate_zero 0 n

@[simp] theorem Store.length_slice (m : Store) (k n : Nat) : (m.slice k n).length = n := by simp [Store.slice]

end Sys2Proof.Machine
end

