-- ==== Sys2Proof/Laws/Bus.lean ====
section
/-! SUPPORT. What a bus read looks at and what a bus write changes, region by region (20_memory.md R90, R91). -/

namespace Sys2Proof.Machine

/-! #### What a write keeps -/

@[simp] theorem State.extRamWrite_regs (s : State) (a : Word) (v : Byte) : (s.extRamWrite a v).regs = s.regs := by
  unfold State.extRamWrite; dsimp only; split <;> [(split <;> rfl); (split <;> [rfl; (split <;> rfl)])]
@[simp] theorem State.extRamWrite_ctl (s : State) (a : Word) (v : Byte) : (s.extRamWrite a v).ctl = s.ctl := by
  unfold State.extRamWrite; dsimp only; split <;> [(split <;> rfl); (split <;> [rfl; (split <;> rfl)])]
@[simp] theorem State.extRamWrite_cycles (s : State) (a : Word) (v : Byte) : (s.extRamWrite a v).cycles = s.cycles := by
  unfold State.extRamWrite; dsimp only; split <;> [(split <;> rfl); (split <;> [rfl; (split <;> rfl)])]
@[simp] theorem State.extRamWrite_irq (s : State) (a : Word) (v : Byte) : (s.extRamWrite a v).irq = s.irq := by
  unfold State.extRamWrite; dsimp only; split <;> [(split <;> rfl); (split <;> [rfl; (split <;> rfl)])]
@[simp] theorem State.extRamWrite_timer (s : State) (a : Word) (v : Byte) : (s.extRamWrite a v).timer = s.timer := by
  unfold State.extRamWrite; dsimp only; split <;> [(split <;> rfl); (split <;> [rfl; (split <;> rfl)])]
@[simp] theorem State.extRamWrite_joy (s : State) (a : Word) (v : Byte) : (s.extRamWrite a v).joy = s.joy := by
  unfold State.extRamWrite; dsimp only; split <;> [(split <;> rfl); (split <;> [rfl; (split <;> rfl)])]
@[simp] theorem State.extRamWrite_ser (s : State) (a : Word) (v : Byte) : (s.extRamWrite a v).ser = s.ser := by
  unfold State.extRamWrite; dsimp only; split <;> [(split <;> rfl); (split <;> [rfl; (split <;> rfl)])]
@[simp] theorem State.extRamWrite_pic (s : State) (a : Word) (v : Byte) : (s.extRamWrite a v).pic = s.pic := by
  unfold State.extRamWrite; dsimp only; split <;> [(split <;> rfl); (split <;> [rfl; (split <;> rfl)])]
@[simp] theorem State.extRamWrite_snd (s : State) (a : Word) (v : Byte) : (s.extRamWrite a v).snd = s.snd := by
  unfold State.extRamWrite; dsimp only; split <;> [(split <;> rfl); (split <;> [rfl; (split <;> rfl)])]
@[simp] theorem State.extRamWrite_bank (s : State) (a : Word) (v : Byte) : (s.extRamWrite a v).bank = s.bank := by
  unfold State.extRamWrite; dsimp only; split <;> [(split <;> rfl); (split <;> [rfl; (split <;> rfl)])]
@[simp] theorem State.extRamWrite_bootRom (s : State) (a : Word) (v : Byte) : (s.extRamWrite a v).bootRom = s.bootRom := by
  unfold State.extRamWrite; dsimp only; split <;> [(split <;> rfl); (split <;> [rfl; (split <;> rfl)])]
@[simp] theorem State.extRamWrite_bootOff (s : State) (a : Word) (v : Byte) : (s.extRamWrite a v).bootOff = s.bootOff := by
  unfold State.extRamWrite; dsimp only; split <;> [(split <;> rfl); (split <;> [rfl; (split <;> rfl)])]
@[simp] theorem State.extRamWrite_mapperUnsupported (s : State) (a : Word) (v : Byte) : (s.extRamWrite a v).mapperUnsupported = s.mapperUnsupported := by
  unfold State.extRamWrite; dsimp only; split <;> [(split <;> rfl); (split <;> [rfl; (split <;> rfl)])]
@[simp] theorem State.extRamWrite_haltBug (s : State) (a : Word) (v : Byte) : (s.extRamWrite a v).haltBug = s.haltBug := by
  unfold State.extRamWrite; dsimp only; split <;> [(split <;> rfl); (split <;> [rfl; (split <;> rfl)])]
@[simp] theorem State.extRamWrite_samplePeriod (s : State) (a : Word) (v : Byte) : (s.extRamWrite a v).samplePeriod = s.samplePeriod := by
  unfold State.extRamWrite; dsimp only; split <;> [(split <;> rfl); (split <;> [rfl; (split <;> rfl)])]

@[simp] theorem State.joypadCheck_regs (s : State) : (s.joypadCheck).regs = s.regs := by
  unfold State.joypadCheck; dsimp only; split <;> simp
@[simp] theorem State.joypadCheck_ctl (s : State) : (s.joypadCheck).ctl = s.ctl := by
  unfold State.joypadCheck; dsimp only; split <;> simp
@[simp] theorem State.joypadCheck_cycles (s : State) : (s.joypadCheck).cycles = s.cycles := by
  unfold State.joypadCheck; dsimp only; split <;> simp
@[simp] theorem State.joypadCheck_timer (s : State) : (s.joypadCheck).timer = s.timer := by
  unfold State.joypadCheck; dsimp only; split <;> simp
@[simp] theorem State.joypadCheck_ser (s : State) : (s.joypadCheck).ser = s.ser := by
  unfold State.joypadCheck; dsimp only; split <;> simp
@[simp] theorem State.joypadCheck_pic (s : State) : (s.joypadCheck).pic = s.pic := by
  unfold State.joypadCheck; dsimp only; split <;> simp
@[simp] theorem State.joypadCheck_snd (s : State) : (s.joypadCheck).snd = s.snd := by
  unfold State.joypadCheck; dsimp only; split <;> simp
@[simp] theorem State.joypadCheck_bank (s : State) : (s.joypadCheck).bank = s.bank := by
  unfold State.joypadCheck; dsimp only; split <;> simp
@[simp] theorem State.joypadCheck_mem (s : State) : (s.joypadCheck).mem = s.mem := by
  unfold State.joypadCheck; dsimp only; split <;> simp
@[simp] theorem State.joypadCheck_bootRom (s : State) : (s.joypadCheck).bootRom = s.bootRom := by
  unfold State.joypadCheck; dsimp only; split <;> simp
@[simp] theorem State.joypadCheck_bootOff (s : State) : (s.joypadCheck).bootOff = s.bootOff := by
  unfold State.joypadCheck; dsimp only; split <;> simp
@[simp] theorem State.joypadCheck_mapperUnsupported (s : State) : (s.joypadCheck).mapperUnsupported = s.mapperUnsupported := by
  unfold State.joypadCheck; dsimp only; split <;> simp
@[simp] theorem State.joypadCheck_haltBug (s : State) : (s.joypadCheck).haltBug = s.haltBug := by
  unfold State.joypadCheck; dsimp only; split <;> simp
@[simp] theorem State.joypadCheck_samplePeriod (s : State) : (s.joypadCheck).samplePeriod = s.samplePeriod := by
  unfold State.joypadCheck; dsimp only; split <;> simp

@[simp] theorem State.writeP1_regs (s : State) (v : Byte) : (s.writeP1 v).regs = s.regs := by
  simp [State.writeP1]
@[simp] theorem State.writeP1_ctl (s : State) (v : Byte) : (s.writeP1 v).ctl = s.ctl := by
  simp [State.writeP1]
@[simp] theorem State.writeP1_cycles (s : State) (v : Byte) : (s.writeP1 v).cycles = s.cycles := by
  simp [State.writeP1]
@[simp] theorem State.writeP1_timer (s : State) (v : Byte) : (s.writeP1 v).timer = s.timer := by
  simp [State.writeP1]
@[simp] theorem State.writeP1_ser (s : State) (v : Byte) : (s.writeP1 v).ser = s.ser := by
  simp [State.writeP1]
@[simp] theorem State.writeP1_pic (s : State) (v : Byte) : (s.writeP1 v).pic = s.pic := by
  simp [State.writeP1]
@[simp] theorem State.writeP1_snd (s : State) (v : Byte) : (s.writeP1 v).snd = s.snd := by
  simp [State.writeP1]
@[simp] theorem State.writeP1_bank (s : State) (v : Byte) : (s.writeP1 v).bank = s.bank := by
  simp [State.writeP1]
@[simp] theorem State.writeP1_mem (s : State) (v : Byte) : (s.writeP1 v).mem = s.mem := by
  simp [State.writeP1]
@[simp] theorem State.writeP1_bootRom (s : State) (v : Byte) : (s.writeP1 v).bootRom = s.bootRom := by
  simp [State.writeP1]
@[simp] theorem State.writeP1_bootOff (s : State) (v : Byte) : (s.writeP1 v).bootOff = s.bootOff := by
  simp [State.writeP1]
@[simp] theorem State.writeP1_mapperUnsupported (s : State) (v : Byte) : (s.writeP1 v).mapperUnsupported = s.mapperUnsupported := by
  simp [State.writeP1]
@[simp] theorem State.writeP1_haltBug (s : State) (v : Byte) : (s.writeP1 v).haltBug = s.haltBug := by
  simp [State.writeP1]
@[simp] theorem State.writeP1_samplePeriod (s : State) (v : Byte) : (s.writeP1 v).samplePeriod = s.samplePeriod := by
  simp [State.writeP1]

@[simp] theorem State.writeSc_regs (s : State) (v : Byte) : (s.writeSc v).regs = s.regs := by
  rfl
@[simp] theorem State.writeSc_ctl (s : State) (v : Byte) : (s.writeSc v).ctl = s.ctl := by
  rfl
@[simp] theorem State.writeSc_cycles (s : State) (v : Byte) : (s.writeSc v).cycles = s.cycles := by
  rfl
@[simp] theorem State.writeSc_irq (s : State) (v : Byte) : (s.writeSc v).irq = s.irq := by
  rfl
@[simp] theorem State.writeSc_timer (s : State) (v : Byte) : (s.writeSc v).timer = s.timer := by
  rfl
@[simp] theorem State.writeSc_joy (s : State) (v : Byte) : (s.writeSc v).joy = s.joy := by
  rfl
@[simp] theorem State.writeSc_pic (s : State) (v : Byte) : (s.writeSc v).pic = s.pic := by
  rfl
@[simp] theorem State.writeSc_snd (s : State) (v : Byte) : (s.writeSc v).snd = s.snd := by
  rfl
@[simp] theorem State.writeSc_bank (s : State) (v : Byte) : (s.writeSc v).bank = s.bank := by
  rfl
@[simp] theorem State.writeSc_mem (s : State) (v : Byte) : (s.writeSc v).mem = s.mem := by
  rfl
@[simp] theorem State.writeSc_bootRom (s : State) (v : Byte) : (s.writeSc v).bootRom = s.bootRom := by
  rfl
@[simp] theorem State.writeSc_bootOff (s : State) (v : Byte) : (s.writeSc v).bootOff = s.bootOff := by
  rfl
@[simp] theorem State.writeSc_mapperUnsupported (s : State) (v : Byte) : (s.writeSc v).mapperUnsupported = s.mapperUnsupported := by
  rfl
@[simp] theorem State.writeSc_haltBug (s : State) (v : Byte) : (s.writeSc v).haltBug = s.haltBug := by
  rfl
@[simp] theorem State.writeSc_samplePeriod (s : State) (v : Byte) : (s.writeSc v).samplePeriod = s.samplePeriod := by
  rfl

@[simp] theorem State.writeLcdc_regs (s : State) (v : Byte) : (s.writeLcdc v).regs = s.regs := by
  unfold State.writeLcdc; dsimp only; split <;> rfl
@[simp] theorem State.writeLcdc_ctl (s : State) (v : Byte) : (s.writeLcdc v).ctl = s.ctl := by
  unfold State.writeLcdc; dsimp only; split <;> rfl
@[simp] theorem State.writeLcdc_cycles (s : State) (v : Byte) : (s.writeLcdc v).cycles = s.cycles := by
  unfold State.writeLcdc; dsimp only; split <;> rfl
@[simp] theorem State.writeLcdc_irq (s : State) (v : Byte) : (s.writeLcdc v).irq = s.irq := by
  unfold State.writeLcdc; dsimp only; split <;> rfl
@[simp] theorem State.writeLcdc_timer (s : State) (v : Byte) : (s.writeLcdc v).timer = s.timer := by
  unfold State.writeLcdc; dsimp only; split <;> rfl
@[simp] theorem State.writeLcdc_joy (s : State) (v : Byte) : (s.writeLcdc v).joy = s.joy := by
  unfold State.writeLcdc; dsimp only; split <;> rfl
@[simp] theorem State.writeLcdc_ser (s : State) (v : Byte) : (s.writeLcdc v).ser = s.ser := by
  unfold State.writeLcdc; dsimp only; split <;> rfl
@[simp] theorem State.writeLcdc_snd (s : State) (v : Byte) : (s.writeLcdc v).snd = s.snd := by
  unfold State.writeLcdc; dsimp only; split <;> rfl
@[simp] theorem State.writeLcdc_bank (s : State) (v : Byte) : (s.writeLcdc v).bank = s.bank := by
  unfold State.writeLcdc; dsimp only; split <;> rfl
@[simp] theorem State.writeLcdc_mem (s : State) (v : Byte) : (s.writeLcdc v).mem = s.mem := by
  unfold State.writeLcdc; dsimp only; split <;> rfl
@[simp] theorem State.writeLcdc_bootRom (s : State) (v : Byte) : (s.writeLcdc v).bootRom = s.bootRom := by
  unfold State.writeLcdc; dsimp only; split <;> rfl
@[simp] theorem State.writeLcdc_bootOff (s : State) (v : Byte) : (s.writeLcdc v).bootOff = s.bootOff := by
  unfold State.writeLcdc; dsimp only; split <;> rfl
@[simp] theorem State.writeLcdc_mapperUnsupported (s : State) (v : Byte) : (s.writeLcdc v).mapperUnsupported = s.mapperUnsupported := by
  unfold State.writeLcdc; dsimp only; split <;> rfl
@[simp] theorem State.writeLcdc_haltBug (s : State) (v : Byte) : (s.writeLcdc v).haltBug = s.haltBug := by
  unfold State.writeLcdc; dsimp only; split <;> rfl
@[simp] theorem State.writeLcdc_samplePeriod (s : State) (v : Byte) : (s.writeLcdc v).samplePeriod = s.samplePeriod := by
  unfold State.writeLcdc; dsimp only; split <;> rfl

/-- OAM DMA writes OAM and nothing else. -/
theorem State.dmaLoop_keep {α : Type} {f : State → α}
    (h : ∀ (s : State) (m : Store), f { s with mem := { s.mem with oam := m } } = f s) (v : Byte) :
    ∀ (k i : Nat) (s : State), f (State.dmaLoop s v k i) = f s
  | 0, _, _ => rfl
  | k + 1, i, s => by
    rw [State.dmaLoop]
    exact (State.dmaLoop_keep h v k (i + 1) _).trans (h s _)

@[simp] theorem State.dmaLoop_regs (s : State) (v : Byte) (k i : Nat) : (s.dmaLoop v k i).regs = s.regs :=
  State.dmaLoop_keep (f := State.regs) (fun _ _ => rfl) v k i s
@[simp] theorem State.dmaLoop_ctl (s : State) (v : Byte) (k i : Nat) : (s.dmaLoop v k i).ctl = s.ctl :=
  State.dmaLoop_keep (f := State.ctl) (fun _ _ => rfl) v k i s
@[simp] theorem State.dmaLoop_cycles (s : State) (v : Byte) (k i : Nat) : (s.dmaLoop v k i).cycles = s.cycles :=
  State.dmaLoop_keep (f := State.cycles) (fun _ _ => rfl) v k i s
@[simp] theorem State.dmaLoop_irq (s : State) (v : Byte) (k i : Nat) : (s.dmaLoop v k i).irq = s.irq :=
  State.dmaLoop_keep (f := State.irq) (fun _ _ => rfl) v k i s
@[simp] theorem State.dmaLoop_timer (s : State) (v : Byte) (k i : Nat) : (s.dmaLoop v k i).timer = s.timer :=
  State.dmaLoop_keep (f := State.timer) (fun _ _ => rfl) v k i s
@[simp] theorem State.dmaLoop_joy (s : State) (v : Byte) (k i : Nat) : (s.dmaLoop v k i).joy = s.joy :=
  State.dmaLoop_keep (f := State.joy) (fun _ _ => rfl) v k i s
@[simp] theorem State.dmaLoop_ser (s : State) (v : Byte) (k i : Nat) : (s.dmaLoop v k i).ser = s.ser :=
  State.dmaLoop_keep (f := State.ser) (fun _ _ => rfl) v k i s
@[simp] theorem State.dmaLoop_pic (s : State) (v : Byte) (k i : Nat) : (s.dmaLoop v k i).pic = s.pic :=
  State.dmaLoop_keep (f := State.pic) (fun _ _ => rfl) v k i s
@[simp] theorem State.dmaLoop_snd (s : State) (v : Byte) (k i : Nat) : (s.dmaLoop v k i).snd = s.snd :=
  State.dmaLoop_keep (f := State.snd) (fun _ _ => rfl) v k i s
@[simp] theorem State.dmaLoop_bank (s : State) (v : Byte) (k i : Nat) : (s.dmaLoop v k i).bank = s.bank :=
  State.dmaLoop_keep (f := State.bank) (fun _ _ => rfl) v k i s
@[simp] theorem State.dmaLoop_bootRom (s : State) (v : Byte) (k i : Nat) : (s.dmaLoop v k i).bootRom = s.bootRom :=
  State.dmaLoop_keep (f := State.bootRom) (fun _ _ => rfl) v k i s
@[simp] theorem State.dmaLoop_bootOff (s : State) (v : Byte) (k i : Nat) : (s.dmaLoop v k i).bootOff = s.bootOff :=
  State.dmaLoop_keep (f := State.bootOff) (fun _ _ => rfl) v k i s
@[simp] theorem State.dmaLoop_mapperUnsupported (s : State) (v : Byte) (k i : Nat) : (s.dmaLoop v k i).mapperUnsupported = s.mapperUnsupported :=
  State.dmaLoop_keep (f := State.mapperUnsupported) (fun _ _ => rfl) v k i s
@[simp] theorem State.dmaLoop_haltBug (s : State) (v : Byte) (k i : Nat) : (s.dmaLoop v k i).haltBug = s.haltBug :=
  State.dmaLoop_keep (f := State.haltBug) (fun _ _ => rfl) v k i s
@[simp] theorem State.dmaLoop_samplePeriod (s : State) (v : Byte) (k i : Nat) : (s.dmaLoop v k i).samplePeriod = s.samplePeriod :=
  State.dmaLoop_keep (f := State.samplePeriod) (fun _ _ => rfl) v k i s
@[simp] theorem State.dmaLoop_mem_rom (s : State) (v : Byte) (k i : Nat) : (s.dmaLoop v k i).mem.rom = s.mem.rom :=
  State.dmaLoop_keep (f := fun x => x.mem.rom) (fun _ _ => rfl) v k i s
@[simp] theorem State.dmaLoop_mem_vram (s : State) (v : Byte) (k i : Nat) : (s.dmaLoop v k i).mem.vram = s.mem.vram :=
  State.dmaLoop_keep (f := fun x => x.mem.vram) (fun _ _ => rfl) v k i s
@[simp] theorem State.dmaLoop_mem_eram (s : State) (v : Byte) (k i : Nat) : (s.dmaLoop v k i).mem.eram = s.mem.eram :=
  State.dmaLoop_keep (f := fun x => x.mem.eram) (fun _ _ => rfl) v k i s
@[simp] theorem State.dmaLoop_mem_ram2 (s : State) (v : Byte) (k i : Nat) : (s.dmaLoop v k i).mem.ram2 = s.mem.ram2 :=
  State.dmaLoop_keep (f := fun x => x.mem.ram2) (fun _ _ => rfl) v k i s
@[simp] theorem State.dmaLoop_mem_wram (s : State) (v : Byte) (k i : Nat) : (s.dmaLoop v k i).mem.wram = s.mem.wram :=
  State.dmaLoop_keep (f := fun x => x.mem.wram) (fun _ _ => rfl) v k i s
@[simp] theorem State.dmaLoop_mem_hram (s : State) (v : Byte) (k i : Nat) : (s.dmaLoop v k i).mem.hram = s.mem.hram :=
  State.dmaLoop_keep (f := fun x => x.mem.hram) (fun _ _ => rfl) v k i s
@[simp] theorem State.dmaLoop_mem_wave (s : State) (v : Byte) (k i : Nat) : (s.dmaLoop v k i).mem.wave = s.mem.wave :=
  State.dmaLoop_keep (f := fun x => x.mem.wave) (fun _ _ => rfl) v k i s

@[simp] theorem State.writeDma_regs (s : State) (v : Byte) : (s.writeDma v).regs = s.regs := by
  simp [State.writeDma]
@[simp] theorem State.writeDma_ctl (s : State) (v : Byte) : (s.writeDma v).ctl = s.ctl := by
  simp [State.writeDma]
@[simp] theorem State.writeDma_cycles (s : State) (v : Byte) : (s.writeDma v).cycles = s.cycles := by
  simp [State.writeDma]
@[simp] theorem State.writeDma_irq (s : State) (v : Byte) : (s.writeDma v).irq = s.irq := by
  simp [State.writeDma]
@[simp] theorem State.writeDma_timer (s : State) (v : Byte) : (s.writeDma v).timer = s.timer := by
  simp [State.writeDma]
@[simp] theorem State.writeDma_joy (s : State) (v : Byte) : (s.writeDma v).joy = s.joy := by
  simp [State.writeDma]
@[simp] theorem State.writeDma_ser (s : State) (v : Byte) : (s.writeDma v).ser = s.ser := by
  simp [State.writeDma]
@[simp] theorem State.writeDma_snd (s : State) (v : Byte) : (s.writeDma v).snd = s.snd := by
  simp [State.writeDma]
@[simp] theorem State.writeDma_bank (s : State) (v : Byte) : (s.writeDma v).bank = s.bank := by
  simp [State.writeDma]
@[simp] theorem State.writeDma_bootRom (s : State) (v : Byte) : (s.writeDma v).bootRom = s.bootRom := by
  simp [State.writeDma]
@[simp] theorem State.writeDma_bootOff (s : State) (v : Byte) : (s.writeDma v).bootOff = s.bootOff := by
  simp [State.writeDma]
@[simp] theorem State.writeDma_mapperUnsupported (s : State) (v : Byte) : (s.writeDma v).mapperUnsupported = s.mapperUnsupported := by
  simp [State.writeDma]
@[simp] theorem State.writeDma_haltBug (s : State) (v : Byte) : (s.writeDma v).haltBug = s.haltBug := by
  simp [State.writeDma]
@[simp] theorem State.writeDma_samplePeriod (s : State) (v : Byte) : (s.writeDma v).samplePeriod = s.samplePeriod := by
  simp [State.writeDma]

@[simp] theorem State.writeReg_regs (s : State) (r : IoReg) (v : Byte) : (s.writeReg r v).regs = s.regs := by
  (cases r <;> simp [State.writeReg]); split <;> rfl
@[simp] theorem State.writeReg_ctl (s : State) (r : IoReg) (v : Byte) : (s.writeReg r v).ctl = s.ctl := by
  (cases r <;> simp [State.writeReg]); split <;> rfl
@[simp] theorem State.writeReg_cycles (s : State) (r : IoReg) (v : Byte) : (s.writeReg r v).cycles = s.cycles := by
  (cases r <;> simp [State.writeReg]); split <;> rfl
@[simp] theorem State.writeReg_bank (s : State) (r : IoReg) (v : Byte) : (s.writeReg r v).bank = s.bank := by
  (cases r <;> simp [State.writeReg]); split <;> rfl
@[simp] theorem State.writeReg_bootRom (s : State) (r : IoReg) (v : Byte) : (s.writeReg r v).bootRom = s.bootRom := by
  (cases r <;> simp [State.writeReg]); split <;> rfl
@[simp] theorem State.writeReg_mapperUnsupported (s : State) (r : IoReg) (v : Byte) : (s.writeReg r v).mapperUnsupported = s.mapperUnsupported := by
  (cases r <;> simp [State.writeReg]); split <;> rfl
@[simp] theorem State.writeReg_haltBug (s : State) (r : IoReg) (v : Byte) : (s.writeReg r v).haltBug = s.haltBug := by
  (cases r <;> simp [State.writeReg]); split <;> rfl
@[simp] theorem State.writeReg_samplePeriod (s : State) (r : IoReg) (v : Byte) : (s.writeReg r v).samplePeriod = s.samplePeriod := by
  (cases r <;> simp [State.writeReg]); split <;> rfl

@[simp] theorem State.ioWrite_regs (s : State) (off : Nat) (v : Byte) : (s.ioWrite off v).regs = s.regs := by
  unfold State.ioWrite; split <;> simp
@[simp] theorem State.ioWrite_ctl (s : State) (off : Nat) (v : Byte) : (s.ioWrite off v).ctl = s.ctl := by
  unfold State.ioWrite; split <;> simp
@[simp] theorem State.ioWrite_cycles (s : State) (off : Nat) (v : Byte) : (s.ioWrite off v).cycles = s.cycles := by
  unfold State.ioWrite; split <;> simp
@[simp] theorem State.ioWrite_bank (s : State) (off : Nat) (v : Byte) : (s.ioWrite off v).bank = s.bank := by
  unfold State.ioWrite; split <;> simp
@[simp] theorem State.ioWrite_bootRom (s : State) (off : Nat) (v : Byte) : (s.ioWrite off v).bootRom = s.bootRom := by
  unfold State.ioWrite; split <;> simp
@[simp] theorem State.ioWrite_mapperUnsupported (s : State) (off : Nat) (v : Byte) : (s.ioWrite off v).mapperUnsupported = s.mapperUnsupported := by
  unfold State.ioWrite; split <;> simp
@[simp] theorem State.ioWrite_haltBug (s : State) (off : Nat) (v : Byte) : (s.ioWrite off v).haltBug = s.haltBug := by
  unfold State.ioWrite; split <;> simp
@[simp] theorem State.ioWrite_samplePeriod (s : State) (off : Nat) (v : Byte) : (s.ioWrite off v).samplePeriod = s.samplePeriod := by
  unfold State.ioWrite; split <;> simp

/-- Everything a bus write can do (20_memory.md R91), region by region. -/
theorem State.busWrite_cases {P : State → Prop} (s : State) (a : Word) (v : Byte)
    (rom : a.toNat ≤ 0x7FFF → P { s with bank := s.bank.write a v })
    (vram : 0x8000 ≤ a.toNat → a.toNat ≤ 0x9FFF → s.vramBlocked = false →
      P { s with mem := { s.mem with vram := s.mem.vram.write (a.toNat - 0x8000) v } })
    (same : 0x8000 ≤ a.toNat → P s)
    (ext : 0xA000 ≤ a.toNat → a.toNat ≤ 0xBFFF → P (s.extRamWrite a v))
    (wram : ∀ k, k < 0x2000 → 0xC000 ≤ a.toNat → a.toNat ≤ 0xFDFF → k = (a.toNat - 0xC000) % 0x2000 →
      P { s with mem := { s.mem with wram := s.mem.wram.write k v } })
    (oam : 0xFE00 ≤ a.toNat → a.toNat ≤ 0xFE9F → s.oamBlocked = false →
      P { s with mem := { s.mem with oam := s.mem.oam.write (a.toNat - 0xFE00) v } })
    (io : 0xFF00 ≤ a.toNat → a.toNat ≤ 0xFF7F → P (s.ioWrite (a.toNat - 0xFF00) v))
    (hram : 0xFF80 ≤ a.toNat → a.toNat ≤ 0xFFFE →
      P { s with mem := { s.mem with hram := s.mem.hram.write (a.toNat - 0xFF80) v } })
    (ie : a.toNat = 0xFFFF → P { s with irq := { s.irq with ie := v } }) :
    P (s.busWrite a v) := by
  have hlt := a.isLt
  unfold State.busWrite
  dsimp only
  split
  · exact rom ‹_›
  split
  · split
    · exact same (by omega)
    · exact vram (by omega) (by omega) (by simp_all)
  split
  · exact ext (by omega) (by omega)
  split
  · exact wram _ (by omega) (by omega) (by omega) (by omega)
  split
  · exact wram _ (by omega) (by omega) (by omega) (by omega)
  split
  · split
    · exact same (by omega)
    · exact oam (by omega) (by omega) (by simp_all)
  split
  · exact same (by omega)
  split
  · exact io (by omega) (by omega)
  split
  · exact hram (by omega) (by omega)
  · exact ie (by omega)

@[simp] theorem State.busWrite_regs (s : State) (a : Word) (v : Byte) : (s.busWrite a v).regs = s.regs := by
  exact State.busWrite_cases (P := fun t => t.regs = s.regs) s a v (fun _ => rfl) (fun _ _ _ => rfl) (fun _ => rfl) (fun _ _ => by simp) (fun _ _ _ _ _ => rfl) (fun _ _ _ => rfl) (fun _ _ => by simp) (fun _ _ => rfl) (fun _ => rfl)
@[simp] theorem State.busWrite_ctl (s : State) (a : Word) (v : Byte) : (s.busWrite a v).ctl = s.ctl := by
  exact State.busWrite_cases (P := fun t => t.ctl = s.ctl) s a v (fun _ => rfl) (fun _ _ _ => rfl) (fun _ => rfl) (fun _ _ => by simp) (fun _ _ _ _ _ => rfl) (fun _ _ _ => rfl) (fun _ _ => by simp) (fun _ _ => rfl) (fun _ => rfl)
@[simp] theorem State.busWrite_cycles (s : State) (a : Word) (v : Byte) : (s.busWrite a v).cycles = s.cycles := by
  exact State.busWrite_cases (P := fun t => t.cycles = s.cycles) s a v (fun _ => rfl) (fun _ _ _ => rfl) (fun _ => rfl) (fun _ _ => by simp) (fun _ _ _ _ _ => rfl) (fun _ _ _ => rfl) (fun _ _ => by simp) (fun _ _ => rfl) (fun _ => rfl)
@[simp] theorem State.busWrite_bootRom (s : State) (a : Word) (v : Byte) : (s.busWrite a v).bootRom = s.bootRom := by
  exact State.busWrite_cases (P := fun t => t.bootRom = s.bootRom) s a v (fun _ => rfl) (fun _ _ _ => rfl) (fun _ => rfl) (fun _ _ => by simp) (fun _ _ _ _ _ => rfl) (fun _ _ _ => rfl) (fun _ _ => by simp) (fun _ _ => rfl) (fun _ => rfl)
@[simp] theorem State.busWrite_mapperUnsupported (s : State) (a : Word) (v : Byte) : (s.busWrite a v).mapperUnsupported = s.mapperUnsupported := by
  exact State.busWrite_cases (P := fun t => t.mapperUnsupported = s.mapperUnsupported) s a v (fun _ => rfl) (fun _ _ _ => rfl) (fun _ => rfl) (fun _ _ => by simp) (fun _ _ _ _ _ => rfl) (fun _ _ _ => rfl) (fun _ _ => by simp) (fun _ _ => rfl) (fun _ => rfl)
@[simp] theorem State.busWrite_haltBug (s : State) (a : Word) (v : Byte) : (s.busWrite a v).haltBug = s.haltBug := by
  exact State.busWrite_cases (P := fun t => t.haltBug = s.haltBug) s a v (fun _ => rfl) (fun _ _ _ => rfl) (fun _ => rfl) (fun _ _ => by simp) (fun _ _ _ _ _ => rfl) (fun _ _ _ => rfl) (fun _ _ => by simp) (fun _ _ => rfl) (fun _ => rfl)
@[simp] theorem State.busWrite_samplePeriod (s : State) (a : Word) (v : Byte) : (s.busWrite a v).samplePeriod = s.samplePeriod := by
  exact State.busWrite_cases (P := fun t => t.samplePeriod = s.samplePeriod) s a v (fun _ => rfl) (fun _ _ _ => rfl) (fun _ => rfl) (fun _ _ => by simp) (fun _ _ _ _ _ => rfl) (fun _ _ _ => rfl) (fun _ _ => by simp) (fun _ _ => rfl) (fun _ => rfl)

end Sys2Proof.Machine
end

