-- ==== Sys2Proof/Laws/Ops.lean ====
section
/-! SUPPORT. What the bus and the stack operations do, said once: what a byte read depends on, what a store does and leaves
alone, and the operations over them. -/

namespace Sys2Proof.Machine

/-! #### What a read depends on -/

/-- Two choices on one condition are equal when their branches are. -/
theorem ite_branches {α : Type} {c : Prop} [Decidable c] {x x' y y' : α} (h1 : x = x') (h2 : y = y') :
    ite c x y = ite c x' y' := by rw [h1, h2]

/-- Everything a byte read looks at: the memories, the banks, the overlay, the cycle counter and the devices
(20_memory.md R90, R92). -/
structure SameView (s t : State) : Prop where
  cycles : t.cycles = s.cycles
  irq : t.irq = s.irq
  timer : t.timer = s.timer
  joy : t.joy = s.joy
  ser : t.ser = s.ser
  pic : t.pic = s.pic
  snd : t.snd = s.snd
  bank : t.bank = s.bank
  mem : t.mem = s.mem
  bootRom : t.bootRom = s.bootRom
  bootOff : t.bootOff = s.bootOff

theorem State.ioRead_view {s t : State} (h : SameView s t) (off : Nat) : t.ioRead off = s.ioRead off := by
  unfold State.ioRead
  split
  · rename_i r _
    cases r <;> simp only [State.readReg, State.readStat, State.readLy, State.displayOn, h.irq, h.timer, h.joy, h.ser, h.pic,
      h.snd, h.mem]
    case ly => rfl
  · rfl

theorem State.readWith_view {s t : State} (h : SameView s t) (vb ob : Bool) (a : Word) :
    t.readWith vb ob a = s.readWith vb ob a := by
  unfold State.readWith
  dsimp only
  refine ite_branches ?_ (ite_branches ?_ (ite_branches ?_ (ite_branches ?_ (ite_branches ?_ (ite_branches ?_
    (ite_branches ?_ (ite_branches ?_ (ite_branches ?_ (ite_branches ?_ ?_)))))))))
  · simp only [State.overlay, State.romRead, h.bank, h.mem, h.bootRom, h.bootOff]
  · simp only [State.romRead, h.bank, h.mem]
  · rw [h.mem]
  · simp only [State.extRamRead, h.bank, h.mem, h.cycles]
  · rw [h.mem]
  · rw [h.mem]
  · rw [h.mem]
  · rw [h.cycles]
  · exact State.ioRead_view h _
  · rw [h.mem]
  · rw [h.irq]

/-- A byte read depends on nothing else: not on the register file, not on the CPU control state. -/
theorem State.busRead_view {s t : State} (h : SameView s t) (a : Word) : t.busRead a = s.busRead a := by
  unfold State.busRead
  rw [State.readWith_view h]
  simp only [State.vramBlocked, State.oamBlocked, State.displayOn, h.pic]

theorem State.rawRead_view {s t : State} (h : SameView s t) (a : Word) : t.rawRead a = s.rawRead a :=
  State.readWith_view h false false a

/-- The register file and the CPU control state are no part of the view. -/
theorem sameView_regs_ctl (s : State) (r : Regs) (c : Control) : SameView s { s with regs := r, ctl := c } :=
  ⟨rfl, rfl, rfl, rfl, rfl, rfl, rfl, rfl, rfl, rfl, rfl⟩

theorem SameView.refl (s : State) : SameView s s := ⟨rfl, rfl, rfl, rfl, rfl, rfl, rfl, rfl, rfl, rfl, rfl⟩

theorem State.busRead_with_regs (s : State) (r : Regs) (a : Word) :
    ({ s with regs := r } : State).busRead a = s.busRead a := State.busRead_view (sameView_regs_ctl s r s.ctl) a

/-- A step that writes the register file only keeps every byte (KeepsAllButRegs). -/
theorem keepsAllButRegs_of_regs (s : State) (r : Regs) : KeepsAllButRegs s { s with regs := r } :=
  ⟨rfl, fun a => State.busRead_with_regs s r a⟩

/-! #### Where a read and a write go -/

theorem State.busRead_vram {s : State} {a : Word} (h1 : 0x8000 ≤ a.toNat) (h2 : a.toNat ≤ 0x9FFF) :
    s.busRead a = if s.vramBlocked then 0xFF else s.mem.vram.read (a.toNat - 0x8000) := by
  simp only [State.busRead, State.readWith]
  repeat rw [if_neg (by omega)]
  rw [if_pos h2]

theorem State.busRead_ext {s : State} {a : Word} (h1 : 0xA000 ≤ a.toNat) (h2 : a.toNat ≤ 0xBFFF) :
    s.busRead a = s.extRamRead a := by
  simp only [State.busRead, State.readWith]
  repeat rw [if_neg (by omega)]
  rw [if_pos h2]

/-- WRAM and its echo are one memory (20_memory.md R82). -/
theorem State.busRead_wram {s : State} {a : Word} (h1 : 0xC000 ≤ a.toNat) (h2 : a.toNat ≤ 0xFDFF) :
    s.busRead a = s.mem.wram.read ((a.toNat - 0xC000) % 0x2000) := by
  simp only [State.busRead, State.readWith]
  repeat rw [if_neg (by omega)]
  have e : (a.toNat - 0xC000) % 0x2000 = if a.toNat ≤ 0xDFFF then a.toNat - 0xC000 else a.toNat - 0xE000 := by
    split <;> omega
  rw [e, if_pos h2]
  split <;> rfl

theorem State.busRead_oam {s : State} {a : Word} (h1 : 0xFE00 ≤ a.toNat) (h2 : a.toNat ≤ 0xFE9F) :
    s.busRead a = if s.oamBlocked then 0xFF else s.mem.oam.read (a.toNat - 0xFE00) := by
  simp only [State.busRead, State.readWith]
  repeat rw [if_neg (by omega)]
  rw [if_pos h2]

theorem State.busRead_unusable {s : State} {a : Word} (h1 : 0xFEA0 ≤ a.toNat) (h2 : a.toNat ≤ 0xFEFF) :
    s.busRead a = Config.unusableRead s.cycles a := by
  simp only [State.busRead, State.readWith]
  repeat rw [if_neg (by omega)]
  rw [if_pos h2]

theorem State.busRead_io {s : State} {a : Word} (h1 : 0xFF00 ≤ a.toNat) (h2 : a.toNat ≤ 0xFF7F) :
    s.busRead a = s.ioRead (a.toNat - 0xFF00) := by
  simp only [State.busRead, State.readWith]
  repeat rw [if_neg (by omega)]
  rw [if_pos h2]

theorem State.busRead_hram {s : State} {a : Word} (h1 : 0xFF80 ≤ a.toNat) (h2 : a.toNat ≤ 0xFFFE) :
    s.busRead a = s.mem.hram.read (a.toNat - 0xFF80) := by
  simp only [State.busRead, State.readWith]
  repeat rw [if_neg (by omega)]
  rw [if_pos h2]

theorem State.busRead_ie {s : State} {a : Word} (h : a.toNat = 0xFFFF) : s.busRead a = s.irq.ie := by
  simp only [State.busRead, State.readWith]
  repeat rw [if_neg (by omega)]

theorem State.busWrite_wram {s : State} {a : Word} {v : Byte} (h1 : 0xC000 ≤ a.toNat) (h2 : a.toNat ≤ 0xFDFF) :
    s.busWrite a v = { s with mem := { s.mem with wram := s.mem.wram.write ((a.toNat - 0xC000) % 0x2000) v } } := by
  simp only [State.busWrite]
  repeat rw [if_neg (by omega)]
  have e : (a.toNat - 0xC000) % 0x2000 = if a.toNat ≤ 0xDFFF then a.toNat - 0xC000 else a.toNat - 0xE000 := by
    split <;> omega
  rw [e, if_pos h2]
  split <;> rfl

theorem State.busWrite_vram {s : State} {a : Word} {v : Byte} (h1 : 0x8000 ≤ a.toNat) (h2 : a.toNat ≤ 0x9FFF) :
    s.busWrite a v
      = if s.vramBlocked then s else { s with mem := { s.mem with vram := s.mem.vram.write (a.toNat - 0x8000) v } } := by
  simp only [State.busWrite]
  repeat rw [if_neg (by omega)]
  rw [if_pos h2]

theorem State.busWrite_ext {s : State} {a : Word} {v : Byte} (h1 : 0xA000 ≤ a.toNat) (h2 : a.toNat ≤ 0xBFFF) :
    s.busWrite a v = s.extRamWrite a v := by
  simp only [State.busWrite]
  repeat rw [if_neg (by omega)]
  rw [if_pos h2]

theorem State.busWrite_oam {s : State} {a : Word} {v : Byte} (h1 : 0xFE00 ≤ a.toNat) (h2 : a.toNat ≤ 0xFE9F) :
    s.busWrite a v
      = if s.oamBlocked then s else { s with mem := { s.mem with oam := s.mem.oam.write (a.toNat - 0xFE00) v } } := by
  simp only [State.busWrite]
  repeat rw [if_neg (by omega)]
  rw [if_pos h2]

theorem State.busWrite_unusable {s : State} {a : Word} {v : Byte} (h1 : 0xFEA0 ≤ a.toNat) (h2 : a.toNat ≤ 0xFEFF) :
    s.busWrite a v = s := by
  simp only [State.busWrite]
  repeat rw [if_neg (by omega)]
  rw [if_pos h2]

theorem State.busWrite_io {s : State} {a : Word} {v : Byte} (h1 : 0xFF00 ≤ a.toNat) (h2 : a.toNat ≤ 0xFF7F) :
    s.busWrite a v = s.ioWrite (a.toNat - 0xFF00) v := by
  simp only [State.busWrite]
  repeat rw [if_neg (by omega)]
  rw [if_pos h2]

theorem State.busWrite_hram {s : State} {a : Word} {v : Byte} (h1 : 0xFF80 ≤ a.toNat) (h2 : a.toNat ≤ 0xFFFE) :
    s.busWrite a v = { s with mem := { s.mem with hram := s.mem.hram.write (a.toNat - 0xFF80) v } } := by
  simp only [State.busWrite]
  repeat rw [if_neg (by omega)]
  rw [if_pos h2]

theorem State.busWrite_ie {s : State} {a : Word} {v : Byte} (h : a.toNat = 0xFFFF) :
    s.busWrite a v = { s with irq := { s.irq with ie := v } } := by
  simp only [State.busWrite]
  repeat rw [if_neg (by omega)]

theorem State.busWrite_command {s : State} {a : Word} {v : Byte} (h : a.toNat ≤ 0x7FFF) :
    s.busWrite a v = { s with bank := s.bank.write a v } := by
  simp only [State.busWrite]
  rw [if_pos h]

/-! #### The memories under MemOk -/

theorem State.MemOk.wram {s : State} (h : s.MemOk) : s.mem.wram.wf 0x2000 = true := by
  have := h.1; simp only [Memory.wf, Bool.and_eq_true] at this; exact this.1.1.1.2

theorem State.MemOk.vram {s : State} (h : s.MemOk) : s.mem.vram.wf 0x2000 = true := by
  have := h.1; simp only [Memory.wf, Bool.and_eq_true] at this; exact this.1.1.1.1.1.1.1.2

theorem State.MemOk.eram {s : State} (h : s.MemOk) : s.mem.eram.wf s.bank.ramSize = true := by
  have := h.1; simp only [Memory.wf, Bool.and_eq_true] at this; exact this.1.1.1.1.1.1.2

theorem State.MemOk.ram2 {s : State} (h : s.MemOk) : s.mem.ram2.wf 512 = true := by
  have := h.1; simp only [Memory.wf, Bool.and_eq_true] at this; exact this.1.1.1.1.1.2

theorem State.MemOk.oam {s : State} (h : s.MemOk) : s.mem.oam.wf 160 = true := by
  have := h.1; simp only [Memory.wf, Bool.and_eq_true] at this; exact this.1.1.2

theorem State.MemOk.hram {s : State} (h : s.MemOk) : s.mem.hram.wf 127 = true := by
  have := h.1; simp only [Memory.wf, Bool.and_eq_true] at this; exact this.1.2

theorem State.MemOk.wave {s : State} (h : s.MemOk) : s.mem.wave.wf 16 = true := by
  have := h.1; simp only [Memory.wf, Bool.and_eq_true] at this; exact this.2

/-! #### What a mapper command and an I/O write keep -/

/-- A mapper command changes no fact of the header (20_memory.md R121, R124). -/
theorem Bank.write_fixed (b : Bank) (a : Word) (v : Byte) :
    (b.write a v).mbc = b.mbc ∧ (b.write a v).hasRam = b.hasRam ∧ (b.write a v).hasBattery = b.hasBattery
      ∧ (b.write a v).romBanks = b.romBanks ∧ (b.write a v).ramSize = b.ramSize := by
  unfold Bank.write
  split
  · exact ⟨rfl, rfl, rfl, rfl, rfl⟩
  · exact ⟨rfl, rfl, rfl, rfl, rfl⟩
  · unfold mbc1Write; split <;> [skip; split <;> [skip; split]] <;> exact ⟨rfl, rfl, rfl, rfl, rfl⟩
  · unfold mbc2Write; split <;> [split; skip] <;> exact ⟨rfl, rfl, rfl, rfl, rfl⟩
  · unfold mbc3Write; split <;> [skip; split <;> [skip; split]] <;> exact ⟨rfl, rfl, rfl, rfl, rfl⟩
  · unfold mbc5Write; split <;> [skip; split <;> [skip; split <;> [skip; split]]] <;> exact ⟨rfl, rfl, rfl, rfl, rfl⟩

@[simp] theorem Bank.write_mbc (b : Bank) (a : Word) (v : Byte) : (b.write a v).mbc = b.mbc := (b.write_fixed a v).1
@[simp] theorem Bank.write_hasRam (b : Bank) (a : Word) (v : Byte) : (b.write a v).hasRam = b.hasRam := (b.write_fixed a v).2.1
@[simp] theorem Bank.write_hasBattery (b : Bank) (a : Word) (v : Byte) : (b.write a v).hasBattery = b.hasBattery :=
  (b.write_fixed a v).2.2.1
@[simp] theorem Bank.write_romBanks (b : Bank) (a : Word) (v : Byte) : (b.write a v).romBanks = b.romBanks :=
  (b.write_fixed a v).2.2.2.1
@[simp] theorem Bank.write_ramSize (b : Bank) (a : Word) (v : Byte) : (b.write a v).ramSize = b.ramSize :=
  (b.write_fixed a v).2.2.2.2

/-- The offset that is DMA, and no other, is the DMA register. -/
theorem ioRegAt_dma {off : Nat} (h : ioRegAt off = some .dma) : off = 0x46 := by
  unfold ioRegAt at h
  split at h
  · exact absurd h (by simp)
  · split at h
    · exact absurd h (by simp)
    · unfold plainRegAt at h; split at h <;> simp_all

/-- The offsets of wave RAM (10_state.md R72). -/
theorem ioRegAt_wave {off k : Nat} (h : ioRegAt off = some (.wave k)) : 0x30 ≤ off ∧ off ≤ 0x3F ∧ k = off - 0x30 := by
  unfold ioRegAt at h
  split at h
  · simp at h; omega
  · split at h
    · exact absurd h (by simp)
    · unfold plainRegAt at h; split at h <;> simp at h

/-- The five writes of 20_memory.md R93 that reach a unit: the joypad, the divider, a sound register, LCDC, DMA and BOOT have
operations of their own, and every other write stores the register. -/
theorem State.writeReg_cases {P : State → Prop} (s : State) (r : IoReg) (v : Byte)
    (p1 : r = .p1 → P (s.writeP1 v)) (sc : r = .sc → P (s.writeSc v)) (lcdc : r = .lcdc → P (s.writeLcdc v))
    (dma : r = .dma → P (s.writeDma v)) (same : P s)
    (ser : ∀ x, x.count = s.ser.count → x.start = s.ser.start → P { s with ser := x })
    (timer : ∀ x, P { s with timer := x })
    (iflag : P { s with irq := { s.irq with iflag := v.extractLsb' 0 5 } })
    (sound : ∀ q, P { s with snd := s.snd.write q v }) (nr52 : P { s with snd := s.snd.writeNr52 v })
    (wave : ∀ k, r = .wave k → P { s with mem := { s.mem with wave := s.mem.wave.write k v } })
    (pic : ∀ x, x.lcdc = s.pic.lcdc → x.ly = s.pic.ly → x.u = s.pic.u → x.mode = s.pic.mode → x.offCount = s.pic.offCount →
      x.lineSprites = s.pic.lineSprites → x.frameDone = s.pic.frameDone → x.lines = s.pic.lines → x.winLine = s.pic.winLine →
      x.coinc = s.pic.coinc → P { s with pic := x })
    (boot : P { s with bootOff := true }) :
    P (s.writeReg r v) := by
  cases r with
  | p1 => exact p1 rfl
  | sb => exact ser _ rfl rfl
  | sc => exact sc rfl
  | div => exact timer _
  | tima => exact timer _
  | tma => exact timer _
  | tac => exact timer _
  | iflag => exact iflag
  | sound q => exact sound q
  | nr52 => exact nr52
  | wave k => exact wave k rfl
  | lcdc => exact lcdc rfl
  | stat => exact pic _ rfl rfl rfl rfl rfl rfl rfl rfl rfl rfl
  | scy => exact pic _ rfl rfl rfl rfl rfl rfl rfl rfl rfl rfl
  | scx => exact pic _ rfl rfl rfl rfl rfl rfl rfl rfl rfl rfl
  | ly => exact same
  | lyc => exact pic _ rfl rfl rfl rfl rfl rfl rfl rfl rfl rfl
  | dma => exact dma rfl
  | bgp => exact pic _ rfl rfl rfl rfl rfl rfl rfl rfl rfl rfl
  | obp0 => exact pic _ rfl rfl rfl rfl rfl rfl rfl rfl rfl rfl
  | obp1 => exact pic _ rfl rfl rfl rfl rfl rfl rfl rfl rfl rfl
  | wy => exact pic _ rfl rfl rfl rfl rfl rfl rfl rfl rfl rfl
  | wx => exact pic _ rfl rfl rfl rfl rfl rfl rfl rfl rfl rfl
  | boot =>
    show P (if v = 0 then s else { s with bootOff := true })
    split
    · exact same
    · exact boot

/-- What every I/O write keeps: banks, IE, the host's keys, and every memory but wave RAM and, by DMA, OAM
(20_memory.md R93). -/
structure IoFrame (s t : State) (off : Nat) : Prop where
  ie : t.irq.ie = s.irq.ie
  buttons : t.joy.buttons = s.joy.buttons
  dirs : t.joy.dirs = s.joy.dirs
  rom : t.mem.rom = s.mem.rom
  mem : t.mem = { s.mem with oam := t.mem.oam, wave := t.mem.wave }
  oam : off ≠ 0x46 → t.mem.oam = s.mem.oam
  wave : ¬ (0x30 ≤ off ∧ off ≤ 0x3F) → t.mem.wave = s.mem.wave

@[simp] theorem State.joypadCheck_ie (s : State) : s.joypadCheck.irq.ie = s.irq.ie := by
  unfold State.joypadCheck; dsimp only; split <;> rfl
@[simp] theorem State.joypadCheck_buttons (s : State) : s.joypadCheck.joy.buttons = s.joy.buttons := by
  unfold State.joypadCheck; dsimp only; split <;> rfl
@[simp] theorem State.joypadCheck_dirs (s : State) : s.joypadCheck.joy.dirs = s.joy.dirs := by
  unfold State.joypadCheck; dsimp only; split <;> rfl

theorem State.ioWrite_frame (s : State) (off : Nat) (v : Byte) : IoFrame s (s.ioWrite off v) off := by
  unfold State.ioWrite
  split
  · rename_i r hr
    refine State.writeReg_cases (P := fun t => IoFrame s t off) s r v ?_ ?_ ?_ ?_ ?_ ?_ ?_ ?_ ?_ ?_ ?_ ?_ ?_
    · intro _; constructor <;> simp [State.writeP1]
    · intro _; constructor <;> intros <;> rfl
    · intro _; constructor <;> simp
    · intro h
      subst h
      have ho := ioRegAt_dma hr
      constructor <;> try simp [State.writeDma]
      · generalize hx : ({ s with pic := { s.pic with dma := v } } : State).dmaLoop v 160 0 = x
        have h1 : x.mem.rom = s.mem.rom := by rw [← hx]; simp
        have h2 : x.mem.vram = s.mem.vram := by rw [← hx]; simp
        have h3 : x.mem.eram = s.mem.eram := by rw [← hx]; simp
        have h4 : x.mem.ram2 = s.mem.ram2 := by rw [← hx]; simp
        have h5 : x.mem.wram = s.mem.wram := by rw [← hx]; simp
        have h6 : x.mem.hram = s.mem.hram := by rw [← hx]; simp
        have h7 : x.mem.wave = s.mem.wave := by rw [← hx]; simp
        rw [← h1, ← h2, ← h3, ← h4, ← h5, ← h6, ← h7]
      · intro h; exact absurd ho h
    · constructor <;> intros <;> rfl
    · intro x _ _; constructor <;> intros <;> rfl
    · intro x; constructor <;> intros <;> rfl
    · constructor <;> intros <;> rfl
    · intro q; constructor <;> intros <;> rfl
    · constructor <;> intros <;> rfl
    · intro k h
      subst h
      have hk := ioRegAt_wave hr
      exact ⟨rfl, rfl, rfl, rfl, rfl, fun _ => rfl, fun h => absurd ⟨hk.1, hk.2.1⟩ h⟩
    · intros; constructor <;> intros <;> rfl
    · constructor <;> intros <;> rfl
  · constructor <;> intros <;> rfl

end Sys2Proof.Machine
end

