-- ==== Sys2Proof/Laws/Stores.lean ====
section
/-! SUPPORT. The one frame of every store (20_memory.md R91): what `Stores` says holds of every bus write, at every address. -/

namespace Sys2Proof.Machine

theorem extRamRead_write_ne {s : State} {a b : Word} {v : Byte} (ha1 : 0xA000 ≤ a.toNat) (ha2 : a.toNat ≤ 0xBFFF)
    (hb1 : 0xA000 ≤ b.toNat) (hb2 : b.toNat ≤ 0xBFFF) (h : ¬ s.mirrors a b) :
    (s.extRamWrite a v).extRamRead b = s.extRamRead b := by
  have hm : ¬ (if s.bank.mbc = .mbc2 then (a.toNat - 0xA000) % 512 = (b.toNat - 0xA000) % 512
      else s.bank.ramIndex (a.toNat - 0xA000) = s.bank.ramIndex (b.toNat - 0xA000)) :=
    fun hx => h (Or.inr (Or.inr ⟨ha1, ha2, hb1, hb2, hx⟩))
  unfold State.extRamWrite
  dsimp only
  split
  · rename_i h2
    rw [if_pos h2] at hm
    split
    · simp only [State.extRamRead, if_pos h2]
      rw [Store.read_write_ne _ _ (Ne.symm hm)]
    · rfl
  · rename_i h2
    rw [if_neg h2] at hm
    split
    · rfl
    · split
      · simp only [State.extRamRead]
        rw [Store.read_write_ne _ _ (Ne.symm hm)]
      · rfl

/-- What the devices and the banks show, the plain memories and IE left out. -/
structure SameDevices (s t : State) : Prop where
  cycles : t.cycles = s.cycles
  iflag : t.irq.iflag = s.irq.iflag
  timer : t.timer = s.timer
  joy : t.joy = s.joy
  ser : t.ser = s.ser
  pic : t.pic = s.pic
  snd : t.snd = s.snd
  bank : t.bank = s.bank
  rom : t.mem.rom = s.mem.rom
  wave : t.mem.wave = s.mem.wave
  bootRom : t.bootRom = s.bootRom
  bootOff : t.bootOff = s.bootOff

theorem State.ioRead_devices {s t : State} (h : SameDevices s t) (off : Nat) : t.ioRead off = s.ioRead off := by
  unfold State.ioRead
  split
  · rename_i r _
    cases r <;> simp only [State.readReg, State.readStat, State.readLy, State.displayOn, h.iflag, h.timer, h.joy, h.ser, h.pic,
      h.snd, h.wave]
    case ly => rfl
  · rfl

/-- A byte reads as before where the memory that answers it reads as before. -/
theorem State.busRead_eq {s t : State} (h : SameDevices s t) {b : Word}
    (vram : 0x8000 ≤ b.toNat → b.toNat ≤ 0x9FFF → t.mem.vram.read (b.toNat - 0x8000) = s.mem.vram.read (b.toNat - 0x8000))
    (ext : 0xA000 ≤ b.toNat → b.toNat ≤ 0xBFFF → t.extRamRead b = s.extRamRead b)
    (wram : 0xC000 ≤ b.toNat → b.toNat ≤ 0xFDFF →
      t.mem.wram.read ((b.toNat - 0xC000) % 0x2000) = s.mem.wram.read ((b.toNat - 0xC000) % 0x2000))
    (oam : 0xFE00 ≤ b.toNat → b.toNat ≤ 0xFE9F → t.mem.oam.read (b.toNat - 0xFE00) = s.mem.oam.read (b.toNat - 0xFE00))
    (hram : 0xFF80 ≤ b.toNat → b.toNat ≤ 0xFFFE → t.mem.hram.read (b.toNat - 0xFF80) = s.mem.hram.read (b.toNat - 0xFF80))
    (ie : b.toNat = 0xFFFF → t.irq.ie = s.irq.ie) :
    t.busRead b = s.busRead b := by
  have hb := b.isLt
  have hv : t.vramBlocked = s.vramBlocked := by simp only [State.vramBlocked, State.displayOn, h.pic]
  have ho : t.oamBlocked = s.oamBlocked := by simp only [State.oamBlocked, State.displayOn, h.pic]
  by_cases c1 : b.toNat ≤ 0x7FFF
  · simp only [State.busRead, State.readWith]
    refine ite_branches ?_ ?_
    · simp only [State.overlay, State.romRead, h.bank, h.rom, h.bootRom, h.bootOff]
    · rw [if_pos c1, if_pos c1]
      simp only [State.romRead, h.bank, h.rom]
  by_cases c2 : b.toNat ≤ 0x9FFF
  · rw [State.busRead_vram (by omega) c2, State.busRead_vram (by omega) c2, hv, vram (by omega) c2]
  by_cases c3 : b.toNat ≤ 0xBFFF
  · rw [State.busRead_ext (by omega) c3, State.busRead_ext (by omega) c3, ext (by omega) c3]
  by_cases c4 : b.toNat ≤ 0xFDFF
  · rw [State.busRead_wram (by omega) c4, State.busRead_wram (by omega) c4, wram (by omega) c4]
  by_cases c5 : b.toNat ≤ 0xFE9F
  · rw [State.busRead_oam (by omega) c5, State.busRead_oam (by omega) c5, ho, oam (by omega) c5]
  by_cases c6 : b.toNat ≤ 0xFEFF
  · rw [State.busRead_unusable (by omega) c6, State.busRead_unusable (by omega) c6, h.cycles]
  by_cases c7 : b.toNat ≤ 0xFF7F
  · rw [State.busRead_io (by omega) c7, State.busRead_io (by omega) c7, State.ioRead_devices h]
  by_cases c8 : b.toNat ≤ 0xFFFE
  · rw [State.busRead_hram (by omega) c8, State.busRead_hram (by omega) c8, hram (by omega) c8]
  · rw [State.busRead_ie (by omega), State.busRead_ie (by omega), ie (by omega)]

/-- Everything a store outside the mapper's registers and the I/O block does to the devices and banks: nothing. -/
theorem State.busWrite_devices {s : State} {a : Word} {v : Byte} (ha : plainAddr a) : SameDevices s (s.busWrite a v) := by
  have hlt := a.isLt
  obtain ⟨h0, hio⟩ := ha
  refine State.busWrite_cases (P := fun t => SameDevices s t) s a v ?_ ?_ ?_ ?_ ?_ ?_ ?_ ?_ ?_
  · intro h; omega
  · intros; exact ⟨rfl, rfl, rfl, rfl, rfl, rfl, rfl, rfl, rfl, rfl, rfl, rfl⟩
  · intros; exact ⟨rfl, rfl, rfl, rfl, rfl, rfl, rfl, rfl, rfl, rfl, rfl, rfl⟩
  · intros
    unfold State.extRamWrite
    dsimp only
    split <;> [split; (split <;> [skip; split])] <;> exact ⟨rfl, rfl, rfl, rfl, rfl, rfl, rfl, rfl, rfl, rfl, rfl, rfl⟩
  · intros; exact ⟨rfl, rfl, rfl, rfl, rfl, rfl, rfl, rfl, rfl, rfl, rfl, rfl⟩
  · intros; exact ⟨rfl, rfl, rfl, rfl, rfl, rfl, rfl, rfl, rfl, rfl, rfl, rfl⟩
  · intro h1 h2; exact absurd ⟨h1, h2⟩ hio
  · intros; exact ⟨rfl, rfl, rfl, rfl, rfl, rfl, rfl, rfl, rfl, rfl, rfl, rfl⟩
  · intros; exact ⟨rfl, rfl, rfl, rfl, rfl, rfl, rfl, rfl, rfl, rfl, rfl, rfl⟩

theorem State.extRamWrite_other_mem (s : State) (a : Word) (v : Byte) :
    (s.extRamWrite a v).mem.vram = s.mem.vram ∧ (s.extRamWrite a v).mem.wram = s.mem.wram
      ∧ (s.extRamWrite a v).mem.oam = s.mem.oam ∧ (s.extRamWrite a v).mem.hram = s.mem.hram := by
  unfold State.extRamWrite
  dsimp only
  split <;> [split; (split <;> [skip; split])] <;> exact ⟨rfl, rfl, rfl, rfl⟩

/-- A store outside the mapper's registers and the I/O block changes no byte but the stored one. -/
theorem State.busWrite_others {s : State} {a : Word} {v : Byte} (ha : plainAddr a) {b : Word} (h : ¬ s.mirrors a b) :
    (s.busWrite a v).busRead b = s.busRead b := by
  have hd : SameDevices s (s.busWrite a v) := State.busWrite_devices ha
  have hne : a.toNat ≠ b.toNat := fun e => h (Or.inl (BitVec.eq_of_toNat_eq e))
  have hlt := a.isLt
  obtain ⟨h0, hio⟩ := ha
  revert hd
  refine State.busWrite_cases (P := fun t => SameDevices s t → t.busRead b = s.busRead b) s a v ?_ ?_ ?_ ?_ ?_ ?_ ?_ ?_ ?_
  · intro h; omega
  · intro h1 h2 _ hd
    exact State.busRead_eq hd (fun _ _ => Store.read_write_ne _ _ (by omega)) (fun _ _ => rfl) (fun _ _ => rfl)
      (fun _ _ => rfl) (fun _ _ => rfl) (fun _ => rfl)
  · intro _ _; rfl
  · intro h1 h2 hd
    have hm := s.extRamWrite_other_mem a v
    exact State.busRead_eq hd (fun _ _ => by rw [hm.1]) (fun h3 h4 => extRamRead_write_ne h1 h2 h3 h4 h)
      (fun _ _ => by rw [hm.2.1]) (fun _ _ => by rw [hm.2.2.1]) (fun _ _ => by rw [hm.2.2.2]) (fun _ => by simp)
  · intro k hk h1 h2 hkd hd
    refine State.busRead_eq hd (fun _ _ => rfl) (fun _ _ => rfl) (fun h3 h4 => Store.read_write_ne _ _ ?_)
      (fun _ _ => rfl) (fun _ _ => rfl) (fun _ => rfl)
    intro e
    exact h (Or.inr (Or.inl ⟨h1, h2, h3, h4, by rw [← hkd, e]⟩))
  · intro h1 h2 _ hd
    exact State.busRead_eq hd (fun _ _ => rfl) (fun _ _ => rfl) (fun _ _ => rfl)
      (fun _ _ => Store.read_write_ne _ _ (by omega)) (fun _ _ => rfl) (fun _ => rfl)
  · intro h1 h2; exact absurd ⟨h1, h2⟩ hio
  · intro h1 h2 hd
    exact State.busRead_eq hd (fun _ _ => rfl) (fun _ _ => rfl) (fun _ _ => rfl) (fun _ _ => rfl)
      (fun _ _ => Store.read_write_ne _ _ (by omega)) (fun _ => rfl)
  · intro h1 hd
    exact State.busRead_eq hd (fun _ _ => rfl) (fun _ _ => rfl) (fun _ _ => rfl) (fun _ _ => rfl)
      (fun _ _ => rfl) (fun h2 => by omega)

/-- A byte stored in WRAM, its echo, HRAM or IE is read back. -/
theorem State.busWrite_readBack {s : State} (hm : s.MemOk) {a : Word} (ha : ramAddr a) (v : Byte) :
    (s.busWrite a v).busRead a = v := by
  have hlt := a.isLt
  rcases ha with ⟨h1, h2⟩ | h1
  · rw [State.busWrite_wram h1 h2, State.busRead_wram h1 h2]
    exact Store.read_write_same_of_wf hm.wram _ _
  · by_cases h2 : a.toNat ≤ 0xFFFE
    · rw [State.busWrite_hram h1 h2, State.busRead_hram h1 h2]
      exact Store.read_write_same_of_wf hm.hram _ _
    · rw [State.busWrite_ie (by omega), State.busRead_ie (by omega)]

/-- Every store keeps the CPU control state, the cycle counter, the fixed part and the host's keys. -/
theorem State.busWrite_control (s : State) (a : Word) (v : Byte) : KeepsControl s (s.busWrite a v) := by
  refine State.busWrite_cases (P := fun t => KeepsControl s t) s a v ?_ ?_ ?_ ?_ ?_ ?_ ?_ ?_ ?_
  · intro _; exact ⟨rfl, rfl, by simp [State.fixed], rfl, rfl⟩
  · intro _ _ _; exact ⟨rfl, rfl, rfl, rfl, rfl⟩
  · intro _; exact ⟨rfl, rfl, rfl, rfl, rfl⟩
  · intro _ _
    unfold State.extRamWrite
    dsimp only
    split <;> [split; (split <;> [skip; split])] <;> exact ⟨rfl, rfl, rfl, rfl, rfl⟩
  · intros; exact ⟨rfl, rfl, rfl, rfl, rfl⟩
  · intros; exact ⟨rfl, rfl, rfl, rfl, rfl⟩
  · intro _ _
    have hf := s.ioWrite_frame (a.toNat - 0xFF00) v
    refine ⟨by simp, by simp, ?_, hf.buttons, hf.dirs⟩
    simp [State.fixed, hf.rom]
  · intros; exact ⟨rfl, rfl, rfl, rfl, rfl⟩
  · intros; exact ⟨rfl, rfl, rfl, rfl, rfl⟩

/-- THE FRAME OF EVERY STORE, whatever the form then does to the register file. -/
theorem stores_of_write {s t : State} {a : Word} {v : Byte} (h : { t with regs := s.regs } = s.busWrite a v) :
    Stores s t a v := by
  have hlt := a.isLt
  have ht : t = { s.busWrite a v with regs := t.regs } := by rw [← h]
  have hread : ∀ b, t.busRead b = (s.busWrite a v).busRead b := by
    intro b; rw [ht]; exact State.busRead_with_regs _ _ b
  have hcontrol := s.busWrite_control a v
  have hback := fun (hm : s.MemOk) ha => State.busWrite_readBack hm (a := a) ha v
  have hdev := fun ha => State.busWrite_devices (s := s) (a := a) (v := v) ha
  have hoth := fun ha b hb => State.busWrite_others (s := s) (a := a) (v := v) ha (b := b) hb
  have hcmd := fun ha => State.busWrite_command (s := s) (a := a) (v := v) ha
  have hio : 0xFF00 ≤ a.toNat → a.toNat ≤ 0xFF7F →
      IoFrame s (s.busWrite a v) (a.toNat - 0xFF00) ∧ (s.busWrite a v).bank = s.bank := by
    intro h1 h2
    rw [State.busWrite_io h1 h2]
    exact ⟨s.ioWrite_frame _ v, by simp⟩
  generalize hw : s.busWrite a v = w at *
  generalize t.regs = r at ht
  subst ht
  refine ⟨h.trans hw.symm, hcontrol, ?_, ?_, ?_, ?_⟩
  · intro hm ha; rw [hread]; exact hback hm ha
  · intro ha
    have hd := hdev ha
    exact ⟨⟨hd.timer, hd.joy, hd.ser, hd.pic, hd.snd, hd.bootOff⟩, hd.bank, hd.iflag,
      fun b hb => by rw [hread]; exact hoth ha b hb⟩
  · intro ha
    rw [hcmd ha]
  · intro h1 h2
    obtain ⟨hf, hb⟩ := hio h1 h2
    exact ⟨hb, hf.ie, hf.mem, fun hn => hf.oam (by omega), fun hn => hf.wave (by omega)⟩

/-- The frame of a bus write by itself. -/
theorem stores_busWrite (s : State) (a : Word) (v : Byte) : Stores s (s.busWrite a v) a v := by
  apply stores_of_write
  have h := State.busWrite_regs s a v
  generalize s.busWrite a v = w at *
  rw [← h]

end Sys2Proof.Machine
end

