-- ==== Sys2Proof/Laws/Canon.lean ====
section
/-! SUPPORT. Every memory operation keeps the canonical form (`State.MemOk`) and the bank fields that cannot hold 0
(`State.BankOk`); the memories of `State.reset` have it. -/

namespace Sys2Proof.Machine

theorem State.reset_memOk : State.reset.MemOk := ⟨by decide, fun m h => by cases h⟩

theorem State.reset_bankOk : State.reset.BankOk := by unfold State.BankOk; decide

/-- The canonical form in its parts. -/
theorem Memory.wf_iff (m : Memory) (b : Bank) :
    m.wf b = true ↔ m.rom.wf (b.romBanks * 0x4000) = true ∧ m.vram.wf 0x2000 = true ∧ m.eram.wf b.ramSize = true
      ∧ m.ram2.wf 512 = true ∧ m.ram2.all (fun c => decide (c.2.toNat < 16)) = true ∧ m.wram.wf 0x2000 = true
      ∧ m.oam.wf 160 = true ∧ m.hram.wf 127 = true ∧ m.wave.wf 16 = true := by
  simp only [Memory.wf, Bool.and_eq_true]
  tauto

/-- The form depends on the memories, the ROM and RAM sizes and the overlay only. -/
theorem State.MemOk.of_eq {s t : State} (h : s.MemOk) (hm : t.mem = s.mem) (hr : t.bank.romBanks = s.bank.romBanks)
    (hs : t.bank.ramSize = s.bank.ramSize) (hb : t.bootRom = s.bootRom) : t.MemOk := by
  refine ⟨?_, fun m hx => h.2 m (hb ▸ hx)⟩
  have := h.1
  rw [Memory.wf_iff] at this ⊢
  rw [hm, hr, hs]; exact this

theorem State.MemOk.with_vram {s : State} (h : s.MemOk) {k : Nat} (hk : k < 0x2000) (v : Byte) :
    ({ s with mem := { s.mem with vram := s.mem.vram.write k v } } : State).MemOk := by
  refine ⟨?_, h.2⟩
  have := h.1
  rw [Memory.wf_iff] at this ⊢
  exact ⟨this.1, Store.wf_write this.2.1 hk v, this.2.2⟩

theorem State.MemOk.with_wram {s : State} (h : s.MemOk) {k : Nat} (hk : k < 0x2000) (v : Byte) :
    ({ s with mem := { s.mem with wram := s.mem.wram.write k v } } : State).MemOk := by
  refine ⟨?_, h.2⟩
  have := h.1
  rw [Memory.wf_iff] at this ⊢
  obtain ⟨h1, h2, h3, h4, h5, h6, h7⟩ := this
  exact ⟨h1, h2, h3, h4, h5, Store.wf_write h6 hk v, h7⟩

theorem State.MemOk.with_oam {s : State} (h : s.MemOk) {k : Nat} (hk : k < 160) (v : Byte) :
    ({ s with mem := { s.mem with oam := s.mem.oam.write k v } } : State).MemOk := by
  refine ⟨?_, h.2⟩
  have := h.1
  rw [Memory.wf_iff] at this ⊢
  obtain ⟨h1, h2, h3, h4, h5, h6, h7, h8⟩ := this
  exact ⟨h1, h2, h3, h4, h5, h6, Store.wf_write h7 hk v, h8⟩

theorem State.MemOk.with_hram {s : State} (h : s.MemOk) {k : Nat} (hk : k < 127) (v : Byte) :
    ({ s with mem := { s.mem with hram := s.mem.hram.write k v } } : State).MemOk := by
  refine ⟨?_, h.2⟩
  have := h.1
  rw [Memory.wf_iff] at this ⊢
  obtain ⟨h1, h2, h3, h4, h5, h6, h7, h8, h9⟩ := this
  exact ⟨h1, h2, h3, h4, h5, h6, h7, Store.wf_write h8 hk v, h9⟩

theorem State.MemOk.with_wave {s : State} (h : s.MemOk) {k : Nat} (hk : k < 16) (v : Byte) :
    ({ s with mem := { s.mem with wave := s.mem.wave.write k v } } : State).MemOk := by
  refine ⟨?_, h.2⟩
  have := h.1
  rw [Memory.wf_iff] at this ⊢
  obtain ⟨h1, h2, h3, h4, h5, h6, h7, h8, h9⟩ := this
  exact ⟨h1, h2, h3, h4, h5, h6, h7, h8, Store.wf_write h9 hk v⟩

theorem State.MemOk.extRamWrite {s : State} (h : s.MemOk) (a : Word) (v : Byte) : (s.extRamWrite a v).MemOk := by
  have hw := h.1
  rw [Memory.wf_iff] at hw
  obtain ⟨h1, h2, h3, h4, h5, h6, h7, h8, h9⟩ := hw
  unfold State.extRamWrite
  dsimp only
  split
  · split
    · refine ⟨?_, h.2⟩
      rw [Memory.wf_iff]
      refine ⟨h1, h2, h3, Store.wf_write h4 (Nat.mod_lt _ (by omega)) _, Store.all_write h5 ?_, h6, h7, h8, h9⟩
      have := (v &&& 0x0F).isLt
      simp only [decide_eq_true_eq]
      rw [BitVec.toNat_and]
      have : v.toNat &&& 15 = v.toNat % 16 := Nat.and_two_pow_sub_one_eq_mod v.toNat 4
      show v.toNat &&& 15 < 16
      omega
    · exact h
  · split
    · exact h
    · split
      · rename_i hr
        refine ⟨?_, h.2⟩
        rw [Memory.wf_iff]
        refine ⟨h1, h2, Store.wf_write h3 ?_ v, h4, h5, h6, h7, h8, h9⟩
        simp only [Bank.ramReachable, Bool.and_eq_true, bne_iff_ne] at hr
        exact Nat.mod_lt _ (by omega)
      · exact h

theorem State.MemOk.dmaLoop {s : State} (h : s.MemOk) (v : Byte) : ∀ (k i : Nat), i + k ≤ 160 → (s.dmaLoop v k i).MemOk
  | 0, _, _ => h
  | k + 1, i, hi => by
    rw [State.dmaLoop]
    exact State.MemOk.dmaLoop (h.with_oam (by omega) _) v k (i + 1) (by omega)

/-- An I/O write keeps the canonical form. -/
theorem State.MemOk.ioWrite {s : State} (h : s.MemOk) (off : Nat) (v : Byte) : (s.ioWrite off v).MemOk := by
  unfold State.ioWrite
  split
  · rename_i r hr
    refine State.writeReg_cases (P := fun t => t.MemOk) s r v ?_ ?_ ?_ ?_ ?_ ?_ ?_ ?_ ?_ ?_ ?_ ?_ ?_
    · intro _; exact h.of_eq (by simp) (by simp) (by simp) (by simp)
    · intro _; exact h.of_eq (by simp) (by simp) (by simp) (by simp)
    · intro _; exact h.of_eq (by simp) (by simp) (by simp) (by simp)
    · intro _
      exact State.MemOk.dmaLoop (h.of_eq (t := { s with pic := { s.pic with dma := v } }) rfl rfl rfl rfl) v 160 0 (by omega)
    · exact h
    · intros; exact h.of_eq rfl rfl rfl rfl
    · intros; exact h.of_eq rfl rfl rfl rfl
    · exact h.of_eq rfl rfl rfl rfl
    · intros; exact h.of_eq rfl rfl rfl rfl
    · exact h.of_eq rfl rfl rfl rfl
    · intro k hk
      subst hk
      have := ioRegAt_wave hr
      exact h.with_wave (by omega) v
    · intros; exact h.of_eq rfl rfl rfl rfl
    · exact h.of_eq rfl rfl rfl rfl
  · exact h

/-- EVERY BUS WRITE KEEPS THE CANONICAL FORM of every memory (20_memory.md R80, R91). -/
theorem State.MemOk.busWrite {s : State} (h : s.MemOk) (a : Word) (v : Byte) : (s.busWrite a v).MemOk := by
  refine State.busWrite_cases (P := fun t => t.MemOk) s a v ?_ ?_ ?_ ?_ ?_ ?_ ?_ ?_ ?_
  · intro _; exact h.of_eq rfl (by simp) (by simp) rfl
  · intro h1 h2 _; exact h.with_vram (by omega) v
  · intro _; exact h
  · intro _ _; exact h.extRamWrite a v
  · intro k hk _ _ _; exact h.with_wram hk v
  · intro h1 h2 _; exact h.with_oam (by omega) v
  · intro _ _; exact h.ioWrite _ v
  · intro h1 h2; exact h.with_hram (by omega) v
  · intro _; exact h.of_eq rfl rfl rfl rfl

theorem zeroAlias_ne_zero {w : Nat} (hw : 0 < w) (v : BitVec w) : zeroAlias v ≠ 0 := by
  unfold zeroAlias
  split
  · intro h
    have := congrArg BitVec.toNat h
    simp [Nat.mod_eq_of_lt (Nat.one_lt_two_pow (by omega : w ≠ 0))] at this
  · assumption

/-- A mapper command never leaves 0 in a field that aliases 0 to 1 (20_memory.md R127, R129, R130). -/
theorem Bank.write_aliases (b : Bank) (a : Word) (v : Byte) (h : b.lo5 ≠ 0 ∧ b.rom4 ≠ 0 ∧ b.rom7 ≠ 0) :
    (b.write a v).lo5 ≠ 0 ∧ (b.write a v).rom4 ≠ 0 ∧ (b.write a v).rom7 ≠ 0 := by
  unfold Bank.write
  split
  · exact h
  · exact h
  · unfold mbc1Write
    split <;> [exact h; split <;> [exact ⟨zeroAlias_ne_zero (by omega) _, h.2⟩; split <;> exact h]]
  · unfold mbc2Write
    split <;> [split <;> [exact ⟨h.1, zeroAlias_ne_zero (by omega) _, h.2.2⟩; exact h]; exact h]
  · unfold mbc3Write
    split <;> [exact h; split <;> [exact ⟨h.1, h.2.1, zeroAlias_ne_zero (by omega) _⟩; split <;> exact h]]
  · unfold mbc5Write
    split <;> [exact h; split <;> [exact h; split <;> [exact h; split <;> exact h]]]

/-- Every bus write keeps `BankOk`. -/
theorem State.BankOk.busWrite {s : State} (h : s.BankOk) (a : Word) (v : Byte) : (s.busWrite a v).BankOk := by
  refine State.busWrite_cases (P := fun t => t.BankOk) s a v ?_ ?_ ?_ ?_ ?_ ?_ ?_ ?_ ?_
  · intro _; exact s.bank.write_aliases a v h
  · intro _ _ _; exact h
  · intro _; exact h
  · intro _ _; unfold State.BankOk; simp only [State.extRamWrite_bank]; exact h
  · intro _ _ _ _ _; exact h
  · intro _ _ _; exact h
  · intro _ _; unfold State.BankOk; simp only [State.ioWrite_bank]; exact h
  · intro _ _; exact h
  · intro _; exact h

end Sys2Proof.Machine
end

