-- ==== Sys2Proof/Laws/Frames.lean ====
section
/-! SUPPORT. The frames of the shared operations, said once: writing one register or pair, a store after which registers
change, and the stack operations. -/

namespace Sys2Proof

theorem Word.ofBytes_toNat (hi lo : Byte) : (Word.ofBytes hi lo).toNat = hi.toNat * 256 + lo.toNat := by
  unfold Word.ofBytes
  have h1 := hi.isLt
  have h2 := lo.isLt
  rw [BitVec.toNat_append, ← Nat.shiftLeft_add_eq_or_of_lt h2, Nat.shiftLeft_eq]

theorem Word.hi_toNat (w : Word) : w.hi.toNat = w.toNat / 256 := by
  have h := w.isLt
  simp only [Word.hi, BitVec.extractLsb'_toNat, Nat.shiftRight_eq_div_pow]
  omega

theorem Word.lo_toNat (w : Word) : w.lo.toNat = w.toNat % 256 := by
  simp [Word.lo, BitVec.extractLsb'_toNat]

theorem Word.ofBytes_hi_lo (w : Word) : Word.ofBytes w.hi w.lo = w := by
  apply BitVec.eq_of_toNat_eq
  rw [Word.ofBytes_toNat, Word.hi_toNat, Word.lo_toNat]
  omega

theorem Word.hi_ofBytes (h l : Byte) : (Word.ofBytes h l).hi = h := by
  apply BitVec.eq_of_toNat_eq
  have := l.isLt
  rw [Word.hi_toNat, Word.ofBytes_toNat]
  omega

theorem Word.lo_ofBytes (h l : Byte) : (Word.ofBytes h l).lo = l := by
  apply BitVec.eq_of_toNat_eq
  have := l.isLt
  rw [Word.lo_toNat, Word.ofBytes_toNat]
  omega

end Sys2Proof

namespace Sys2Proof.Machine

/-! #### One register, one pair -/

/-- Putting back the register file that a state has changes nothing. -/
theorem State.with_regs_self {w : State} {r : Regs} (h : w.regs = r) : { w with regs := r } = w := by subst h; rfl

theorem State.reg_setReg (s : State) (r : Reg8) (v : Byte) : (s.setReg r v).reg r = v := by cases r <;> rfl

theorem State.setReg_keepsFlags (s : State) (r : Reg8) (v : Byte) : KeepsFlags s (s.setReg r v) := by
  cases r <;> exact ⟨rfl, rfl, rfl, rfl⟩

/-- Writing one 8-bit register changes no other register, no flag and nothing outside the register file. -/
theorem State.setReg_writesOnly (s : State) (r : Reg8) (v : Byte) : WritesOnly [r] s (s.setReg r v) := by
  refine ⟨?_, by cases r <;> rfl, by cases r <;> rfl, by cases r <;> exact keepsAllButRegs_of_regs s _⟩
  intro q hq
  cases r <;> cases q <;> first | rfl | (simp at hq)

/-- The same with flags written after. -/
theorem State.setReg_setFlags_writesOnly (s : State) (r : Reg8) (v : Byte) (z n h c : Bool) :
    WritesOnly [r] s ((s.setReg r v).setFlags z n h c) := by
  refine ⟨?_, by cases r <;> rfl, by cases r <;> rfl, by cases r <;> exact keepsAllButRegs_of_regs s _⟩
  intro q hq
  cases r <;> cases q <;> first | rfl | (simp at hq)

theorem State.reg_setReg_setFlags (s : State) (r : Reg8) (v : Byte) (z n h c : Bool) :
    ((s.setReg r v).setFlags z n h c).reg r = v := by cases r <;> rfl

/-- Writing the flags alone. -/
theorem State.setFlags_writesOnly (s : State) (z n h c : Bool) : WritesOnly [] s (s.setFlags z n h c) :=
  ⟨fun q _ => by cases q <;> rfl, rfl, rfl, keepsAllButRegs_of_regs s _⟩

theorem State.hl_setHl (s : State) (v : Word) : (s.setHl v).hl = v := Word.ofBytes_hi_lo v

theorem State.pair_setPair (s : State) (p : Reg16) (v : Word) : (s.setPair p v).pair p = v := by
  cases p <;> first | exact Word.ofBytes_hi_lo v | rfl

/-- Writing one register pair changes no other register, no flag and nothing outside the register file. -/
theorem State.setPair_writesOnlyPair (s : State) (p : Reg16) (v : Word) :
    KeepsFlags s (s.setPair p v) ∧ WritesOnlyPair p s (s.setPair p v) := by
  refine ⟨by cases p <;> exact ⟨rfl, rfl, rfl, rfl⟩, ?_, by cases p <;> rfl, by cases p <;> rfl,
    by cases p <;> exact keepsAllButRegs_of_regs s _⟩
  intro q hq
  cases p <;> cases q <;> first | rfl | exact absurd rfl hq

/-- The same with flags written after. -/
theorem State.setPair_setFlags_writesOnlyPair (s : State) (p : Reg16) (v : Word) (z n h c : Bool) :
    WritesOnlyPair p s ((s.setPair p v).setFlags z n h c) := by
  refine ⟨?_, by cases p <;> rfl, by cases p <;> rfl, by cases p <;> exact keepsAllButRegs_of_regs s _⟩
  intro q hq
  cases p <;> cases q <;> first | rfl | exact absurd rfl hq

/-! #### Writes do not look at the register file -/

theorem State.dmaLoop_with_regs (v : Byte) (r : Regs) : ∀ (k i : Nat) (s : State),
    State.dmaLoop { s with regs := r } v k i = { s.dmaLoop v k i with regs := r }
  | 0, _, _ => rfl
  | k + 1, i, s => by
    have hv : ∀ a, ({ s with regs := r } : State).rawRead a = s.rawRead a :=
      fun a => State.rawRead_view (sameView_regs_ctl s r s.ctl) a
    simp only [State.dmaLoop, hv]
    exact State.dmaLoop_with_regs v r k (i + 1) { s with mem := { s.mem with
      oam := s.mem.oam.write i (s.rawRead (Word.ofBytes v 0 + BitVec.ofNat 16 i)) } }

theorem State.writeReg_with_regs (s : State) (q : IoReg) (v : Byte) (r : Regs) :
    State.writeReg { s with regs := r } q v = { s.writeReg q v with regs := r } := by
  cases q with
  | p1 =>
    simp only [State.writeReg, State.writeP1, State.joypadCheck]
    split <;> rfl
  | lcdc =>
    simp only [State.writeReg, State.writeLcdc, State.displayOn]
    split <;> rfl
  | dma => exact State.dmaLoop_with_regs v r 160 0 { s with pic := { s.pic with dma := v } }
  | boot => simp only [State.writeReg]; split <;> rfl
  | _ => rfl

theorem State.ioWrite_with_regs (s : State) (off : Nat) (v : Byte) (r : Regs) :
    State.ioWrite { s with regs := r } off v = { s.ioWrite off v with regs := r } := by
  unfold State.ioWrite
  split
  · exact State.writeReg_with_regs _ _ _ _
  · rfl

theorem State.extRamWrite_with_regs (s : State) (a : Word) (v : Byte) (r : Regs) :
    State.extRamWrite { s with regs := r } a v = { s.extRamWrite a v with regs := r } := by
  unfold State.extRamWrite
  dsimp only
  split
  · split <;> rfl
  split
  · rfl
  split <;> rfl

/-- A bus write does the same whatever the registers hold. -/
theorem State.busWrite_with_regs (s : State) (a : Word) (v : Byte) (r : Regs) :
    State.busWrite { s with regs := r } a v = { s.busWrite a v with regs := r } := by
  have hlt := a.isLt
  have hv : ({ s with regs := r } : State).vramBlocked = s.vramBlocked := rfl
  have ho : ({ s with regs := r } : State).oamBlocked = s.oamBlocked := rfl
  by_cases h1 : a.toNat ≤ 0x7FFF
  · rw [State.busWrite_command h1, State.busWrite_command h1]
  by_cases h2 : a.toNat ≤ 0x9FFF
  · rw [State.busWrite_vram (by omega) h2, State.busWrite_vram (by omega) h2, hv]
    split <;> rfl
  by_cases h3 : a.toNat ≤ 0xBFFF
  · rw [State.busWrite_ext (by omega) h3, State.busWrite_ext (by omega) h3]
    exact State.extRamWrite_with_regs _ _ _ _
  by_cases h4 : a.toNat ≤ 0xFDFF
  · rw [State.busWrite_wram (by omega) h4, State.busWrite_wram (by omega) h4]
  by_cases h5 : a.toNat ≤ 0xFE9F
  · rw [State.busWrite_oam (by omega) h5, State.busWrite_oam (by omega) h5, ho]
    split <;> rfl
  by_cases h6 : a.toNat ≤ 0xFEFF
  · rw [State.busWrite_unusable (by omega) h6, State.busWrite_unusable (by omega) h6]
  by_cases h7 : a.toNat ≤ 0xFF7F
  · rw [State.busWrite_io (by omega) h7, State.busWrite_io (by omega) h7]
    exact State.ioWrite_with_regs _ _ _ _
  by_cases h8 : a.toNat ≤ 0xFFFE
  · rw [State.busWrite_hram (by omega) h8, State.busWrite_hram (by omega) h8]
  · rw [State.busWrite_ie (by omega), State.busWrite_ie (by omega)]

/-- THE FRAME OF A STORE AFTER WHICH REGISTERS CHANGE. -/
theorem stores_with_regs (s : State) (a : Word) (v : Byte) (r : Regs) :
    Stores s { s.busWrite a v with regs := r } a v :=
  stores_of_write (State.with_regs_self (State.busWrite_regs s a v))

/-- What `Push16` does (00_scope.md R15). -/
theorem State.push16_pushes (s : State) (v pc : Word) : Pushes s ((s.push16 v).setPc pc) v pc := by
  have h : s.push16 v = { (s.busWrite (s.regs.sp - 1) v.hi).busWrite (s.regs.sp - 2) v.lo with
      regs := { s.regs with sp := s.regs.sp - 2 } } := by
    simp only [State.push16, State.setSp, State.busWrite_with_regs]
  refine ⟨by simp only [h, State.setPc], s.busWrite (s.regs.sp - 1) v.hi, State.busWrite_regs _ _ _,
    stores_busWrite _ _ _, ?_⟩
  rw [h]
  exact stores_with_regs _ _ _ _

/-- The same where PC is left alone. -/
theorem State.push16_pushes' (s : State) (v : Word) : Pushes s (s.push16 v) v s.regs.pc := by
  have h := s.push16_pushes v s.regs.pc
  have hr : (s.push16 v).setPc s.regs.pc = s.push16 v := by
    have hp : (s.push16 v).regs.pc = s.regs.pc := by
      simp only [State.push16, State.setSp, State.busWrite_with_regs]
    simp only [State.setPc, ← hp]
  rwa [hr] at h

end Sys2Proof.Machine
end

