-- ==== Sys2Proof/Laws/PerInstr.lean ====
section
/-! SUPPORT. Statements about every instruction as syntax, one lemma per constructor. -/

namespace Sys2Proof.Laws.EncodedLength

/-- The encoder writes as many bytes as the first of them says (30_encoding.md R173). -/
def Statement (i : Instr) : Prop := (encode i).length = instrLength ((encode i).headD 0)

theorem nop : Statement .nop := rfl
theorem ld_bc_nn (nn : Word) : Statement (.ld_bc_nn nn) := rfl
theorem ld_atBC_a : Statement .ld_atBC_a := rfl
theorem inc_bc : Statement .inc_bc := rfl
theorem inc_b : Statement .inc_b := rfl
theorem dec_b : Statement .dec_b := rfl
theorem ld_b_n (n : Byte) : Statement (.ld_b_n n) := rfl
theorem rlca : Statement .rlca := rfl
theorem ld_atNN_sp (nn : Word) : Statement (.ld_atNN_sp nn) := rfl
theorem add_hl_bc : Statement .add_hl_bc := rfl
theorem ld_a_atBC : Statement .ld_a_atBC := rfl
theorem dec_bc : Statement .dec_bc := rfl
theorem inc_c : Statement .inc_c := rfl
theorem dec_c : Statement .dec_c := rfl
theorem ld_c_n (n : Byte) : Statement (.ld_c_n n) := rfl
theorem rrca : Statement .rrca := rfl
theorem stop (z : Byte) : Statement (.stop z) := rfl
theorem ld_de_nn (nn : Word) : Statement (.ld_de_nn nn) := rfl
theorem ld_atDE_a : Statement .ld_atDE_a := rfl
theorem inc_de : Statement .inc_de := rfl
theorem inc_d : Statement .inc_d := rfl
theorem dec_d : Statement .dec_d := rfl
theorem ld_d_n (n : Byte) : Statement (.ld_d_n n) := rfl
theorem rla : Statement .rla := rfl
theorem jr_e (e : Byte) : Statement (.jr_e e) := rfl
theorem add_hl_de : Statement .add_hl_de := rfl
theorem ld_a_atDE : Statement .ld_a_atDE := rfl
theorem dec_de : Statement .dec_de := rfl
theorem inc_e : Statement .inc_e := rfl
theorem dec_e : Statement .dec_e := rfl
theorem ld_e_n (n : Byte) : Statement (.ld_e_n n) := rfl
theorem rra : Statement .rra := rfl
theorem jr_nz_e (e : Byte) : Statement (.jr_nz_e e) := rfl
theorem ld_hl_nn (nn : Word) : Statement (.ld_hl_nn nn) := rfl
theorem ld_atHLinc_a : Statement .ld_atHLinc_a := rfl
theorem inc_hl : Statement .inc_hl := rfl
theorem inc_h : Statement .inc_h := rfl
theorem dec_h : Statement .dec_h := rfl
theorem ld_h_n (n : Byte) : Statement (.ld_h_n n) := rfl
theorem daa : Statement .daa := rfl
theorem jr_z_e (e : Byte) : Statement (.jr_z_e e) := rfl
theorem add_hl_hl : Statement .add_hl_hl := rfl
theorem ld_a_atHLinc : Statement .ld_a_atHLinc := rfl
theorem dec_hl : Statement .dec_hl := rfl
theorem inc_l : Statement .inc_l := rfl
theorem dec_l : Statement .dec_l := rfl
theorem ld_l_n (n : Byte) : Statement (.ld_l_n n) := rfl
theorem cpl : Statement .cpl := rfl
theorem jr_nc_e (e : Byte) : Statement (.jr_nc_e e) := rfl
theorem ld_sp_nn (nn : Word) : Statement (.ld_sp_nn nn) := rfl
theorem ld_atHLdec_a : Statement .ld_atHLdec_a := rfl
theorem inc_sp : Statement .inc_sp := rfl
theorem inc_atHL : Statement .inc_atHL := rfl
theorem dec_atHL : Statement .dec_atHL := rfl
theorem ld_atHL_n (n : Byte) : Statement (.ld_atHL_n n) := rfl
theorem scf : Statement .scf := rfl
theorem jr_c_e (e : Byte) : Statement (.jr_c_e e) := rfl
theorem add_hl_sp : Statement .add_hl_sp := rfl
theorem ld_a_atHLdec : Statement .ld_a_atHLdec := rfl
theorem dec_sp : Statement .dec_sp := rfl
theorem inc_a : Statement .inc_a := rfl
theorem dec_a : Statement .dec_a := rfl
theorem ld_a_n (n : Byte) : Statement (.ld_a_n n) := rfl
theorem ccf : Statement .ccf := rfl
theorem ld_b_b : Statement .ld_b_b := rfl
theorem ld_b_c : Statement .ld_b_c := rfl
theorem ld_b_d : Statement .ld_b_d := rfl
theorem ld_b_e : Statement .ld_b_e := rfl
theorem ld_b_h : Statement .ld_b_h := rfl
theorem ld_b_l : Statement .ld_b_l := rfl
theorem ld_b_atHL : Statement .ld_b_atHL := rfl
theorem ld_b_a : Statement .ld_b_a := rfl
theorem ld_c_b : Statement .ld_c_b := rfl
theorem ld_c_c : Statement .ld_c_c := rfl
theorem ld_c_d : Statement .ld_c_d := rfl
theorem ld_c_e : Statement .ld_c_e := rfl
theorem ld_c_h : Statement .ld_c_h := rfl
theorem ld_c_l : Statement .ld_c_l := rfl
theorem ld_c_atHL : Statement .ld_c_atHL := rfl
theorem ld_c_a : Statement .ld_c_a := rfl
theorem ld_d_b : Statement .ld_d_b := rfl
theorem ld_d_c : Statement .ld_d_c := rfl
theorem ld_d_d : Statement .ld_d_d := rfl
theorem ld_d_e : Statement .ld_d_e := rfl
theorem ld_d_h : Statement .ld_d_h := rfl
theorem ld_d_l : Statement .ld_d_l := rfl
theorem ld_d_atHL : Statement .ld_d_atHL := rfl
theorem ld_d_a : Statement .ld_d_a := rfl
theorem ld_e_b : Statement .ld_e_b := rfl
theorem ld_e_c : Statement .ld_e_c := rfl
theorem ld_e_d : Statement .ld_e_d := rfl
theorem ld_e_e : Statement .ld_e_e := rfl
theorem ld_e_h : Statement .ld_e_h := rfl
theorem ld_e_l : Statement .ld_e_l := rfl
theorem ld_e_atHL : Statement .ld_e_atHL := rfl
theorem ld_e_a : Statement .ld_e_a := rfl
theorem ld_h_b : Statement .ld_h_b := rfl
theorem ld_h_c : Statement .ld_h_c := rfl
theorem ld_h_d : Statement .ld_h_d := rfl
theorem ld_h_e : Statement .ld_h_e := rfl
theorem ld_h_h : Statement .ld_h_h := rfl
theorem ld_h_l : Statement .ld_h_l := rfl
theorem ld_h_atHL : Statement .ld_h_atHL := rfl
theorem ld_h_a : Statement .ld_h_a := rfl
theorem ld_l_b : Statement .ld_l_b := rfl
theorem ld_l_c : Statement .ld_l_c := rfl
theorem ld_l_d : Statement .ld_l_d := rfl
theorem ld_l_e : Statement .ld_l_e := rfl
theorem ld_l_h : Statement .ld_l_h := rfl
theorem ld_l_l : Statement .ld_l_l := rfl
theorem ld_l_atHL : Statement .ld_l_atHL := rfl
theorem ld_l_a : Statement .ld_l_a := rfl
theorem ld_atHL_b : Statement .ld_atHL_b := rfl
theorem ld_atHL_c : Statement .ld_atHL_c := rfl
theorem ld_atHL_d : Statement .ld_atHL_d := rfl
theorem ld_atHL_e : Statement .ld_atHL_e := rfl
theorem ld_atHL_h : Statement .ld_atHL_h := rfl
theorem ld_atHL_l : Statement .ld_atHL_l := rfl
theorem halt : Statement .halt := rfl
theorem ld_atHL_a : Statement .ld_atHL_a := rfl
theorem ld_a_b : Statement .ld_a_b := rfl
theorem ld_a_c : Statement .ld_a_c := rfl
theorem ld_a_d : Statement .ld_a_d := rfl
theorem ld_a_e : Statement .ld_a_e := rfl
theorem ld_a_h : Statement .ld_a_h := rfl
theorem ld_a_l : Statement .ld_a_l := rfl
theorem ld_a_atHL : Statement .ld_a_atHL := rfl
theorem ld_a_a : Statement .ld_a_a := rfl
theorem add_a_b : Statement .add_a_b := rfl
theorem add_a_c : Statement .add_a_c := rfl
theorem add_a_d : Statement .add_a_d := rfl
theorem add_a_e : Statement .add_a_e := rfl
theorem add_a_h : Statement .add_a_h := rfl
theorem add_a_l : Statement .add_a_l := rfl
theorem add_a_atHL : Statement .add_a_atHL := rfl
theorem add_a_a : Statement .add_a_a := rfl
theorem adc_a_b : Statement .adc_a_b := rfl
theorem adc_a_c : Statement .adc_a_c := rfl
theorem adc_a_d : Statement .adc_a_d := rfl
theorem adc_a_e : Statement .adc_a_e := rfl
theorem adc_a_h : Statement .adc_a_h := rfl
theorem adc_a_l : Statement .adc_a_l := rfl
theorem adc_a_atHL : Statement .adc_a_atHL := rfl
theorem adc_a_a : Statement .adc_a_a := rfl
theorem sub_b : Statement .sub_b := rfl
theorem sub_c : Statement .sub_c := rfl
theorem sub_d : Statement .sub_d := rfl
theorem sub_e : Statement .sub_e := rfl
theorem sub_h : Statement .sub_h := rfl
theorem sub_l : Statement .sub_l := rfl
theorem sub_atHL : Statement .sub_atHL := rfl
theorem sub_a : Statement .sub_a := rfl
theorem sbc_a_b : Statement .sbc_a_b := rfl
theorem sbc_a_c : Statement .sbc_a_c := rfl
theorem sbc_a_d : Statement .sbc_a_d := rfl
theorem sbc_a_e : Statement .sbc_a_e := rfl
theorem sbc_a_h : Statement .sbc_a_h := rfl
theorem sbc_a_l : Statement .sbc_a_l := rfl
theorem sbc_a_atHL : Statement .sbc_a_atHL := rfl
theorem sbc_a_a : Statement .sbc_a_a := rfl
theorem and_b : Statement .and_b := rfl
theorem and_c : Statement .and_c := rfl
theorem and_d : Statement .and_d := rfl
theorem and_e : Statement .and_e := rfl
theorem and_h : Statement .and_h := rfl
theorem and_l : Statement .and_l := rfl
theorem and_atHL : Statement .and_atHL := rfl
theorem and_a : Statement .and_a := rfl
theorem xor_b : Statement .xor_b := rfl
theorem xor_c : Statement .xor_c := rfl
theorem xor_d : Statement .xor_d := rfl
theorem xor_e : Statement .xor_e := rfl
theorem xor_h : Statement .xor_h := rfl
theorem xor_l : Statement .xor_l := rfl
theorem xor_atHL : Statement .xor_atHL := rfl
theorem xor_a : Statement .xor_a := rfl
theorem or_b : Statement .or_b := rfl
theorem or_c : Statement .or_c := rfl
theorem or_d : Statement .or_d := rfl
theorem or_e : Statement .or_e := rfl
theorem or_h : Statement .or_h := rfl
theorem or_l : Statement .or_l := rfl
theorem or_atHL : Statement .or_atHL := rfl
theorem or_a : Statement .or_a := rfl
theorem cp_b : Statement .cp_b := rfl
theorem cp_c : Statement .cp_c := rfl
theorem cp_d : Statement .cp_d := rfl
theorem cp_e : Statement .cp_e := rfl
theorem cp_h : Statement .cp_h := rfl
theorem cp_l : Statement .cp_l := rfl
theorem cp_atHL : Statement .cp_atHL := rfl
theorem cp_a : Statement .cp_a := rfl
theorem ret_nz : Statement .ret_nz := rfl
theorem pop_bc : Statement .pop_bc := rfl
theorem jp_nz_nn (nn : Word) : Statement (.jp_nz_nn nn) := rfl
theorem jp_nn (nn : Word) : Statement (.jp_nn nn) := rfl
theorem call_nz_nn (nn : Word) : Statement (.call_nz_nn nn) := rfl
theorem push_bc : Statement .push_bc := rfl
theorem add_a_n (n : Byte) : Statement (.add_a_n n) := rfl
theorem rst_00 : Statement .rst_00 := rfl
theorem ret_z : Statement .ret_z := rfl
theorem ret : Statement .ret := rfl
theorem jp_z_nn (nn : Word) : Statement (.jp_z_nn nn) := rfl
theorem prefix_cb (op2 : Byte) : Statement (.prefix_cb op2) := rfl
theorem call_z_nn (nn : Word) : Statement (.call_z_nn nn) := rfl
theorem call_nn (nn : Word) : Statement (.call_nn nn) := rfl
theorem adc_a_n (n : Byte) : Statement (.adc_a_n n) := rfl
theorem rst_08 : Statement .rst_08 := rfl
theorem ret_nc : Statement .ret_nc := rfl
theorem pop_de : Statement .pop_de := rfl
theorem jp_nc_nn (nn : Word) : Statement (.jp_nc_nn nn) := rfl
theorem illegal_d3 : Statement .illegal_d3 := rfl
theorem call_nc_nn (nn : Word) : Statement (.call_nc_nn nn) := rfl
theorem push_de : Statement .push_de := rfl
theorem sub_n (n : Byte) : Statement (.sub_n n) := rfl
theorem rst_10 : Statement .rst_10 := rfl
theorem ret_c : Statement .ret_c := rfl
theorem reti : Statement .reti := rfl
theorem jp_c_nn (nn : Word) : Statement (.jp_c_nn nn) := rfl
theorem illegal_db : Statement .illegal_db := rfl
theorem call_c_nn (nn : Word) : Statement (.call_c_nn nn) := rfl
theorem illegal_dd : Statement .illegal_dd := rfl
theorem sbc_a_n (n : Byte) : Statement (.sbc_a_n n) := rfl
theorem rst_18 : Statement .rst_18 := rfl
theorem ldh_atN_a (n : Byte) : Statement (.ldh_atN_a n) := rfl
theorem pop_hl : Statement .pop_hl := rfl
theorem ld_atC_a : Statement .ld_atC_a := rfl
theorem illegal_e3 : Statement .illegal_e3 := rfl
theorem illegal_e4 : Statement .illegal_e4 := rfl
theorem push_hl : Statement .push_hl := rfl
theorem and_n (n : Byte) : Statement (.and_n n) := rfl
theorem rst_20 : Statement .rst_20 := rfl
theorem add_sp_e (e : Byte) : Statement (.add_sp_e e) := rfl
theorem jp_hl : Statement .jp_hl := rfl
theorem ld_atNN_a (nn : Word) : Statement (.ld_atNN_a nn) := rfl
theorem illegal_eb : Statement .illegal_eb := rfl
theorem illegal_ec : Statement .illegal_ec := rfl
theorem illegal_ed : Statement .illegal_ed := rfl
theorem xor_n (n : Byte) : Statement (.xor_n n) := rfl
theorem rst_28 : Statement .rst_28 := rfl
theorem ldh_a_atN (n : Byte) : Statement (.ldh_a_atN n) := rfl
theorem pop_af : Statement .pop_af := rfl
theorem ld_a_atC : Statement .ld_a_atC := rfl
theorem di : Statement .di := rfl
theorem illegal_f4 : Statement .illegal_f4 := rfl
theorem push_af : Statement .push_af := rfl
theorem or_n (n : Byte) : Statement (.or_n n) := rfl
theorem rst_30 : Statement .rst_30 := rfl
theorem ld_hl_spe (e : Byte) : Statement (.ld_hl_spe e) := rfl
theorem ld_sp_hl : Statement .ld_sp_hl := rfl
theorem ld_a_atNN (nn : Word) : Statement (.ld_a_atNN nn) := rfl
theorem ei : Statement .ei := rfl
theorem illegal_fc : Statement .illegal_fc := rfl
theorem illegal_fd : Statement .illegal_fd := rfl
theorem cp_n (n : Byte) : Statement (.cp_n n) := rfl
theorem rst_38 : Statement .rst_38 := rfl
theorem rlc_r (r : Reg8) : Statement (.rlc_r r) := rfl
theorem rlc_atHL : Statement .rlc_atHL := rfl
theorem rrc_r (r : Reg8) : Statement (.rrc_r r) := rfl
theorem rrc_atHL : Statement .rrc_atHL := rfl
theorem rl_r (r : Reg8) : Statement (.rl_r r) := rfl
theorem rl_atHL : Statement .rl_atHL := rfl
theorem rr_r (r : Reg8) : Statement (.rr_r r) := rfl
theorem rr_atHL : Statement .rr_atHL := rfl
theorem sla_r (r : Reg8) : Statement (.sla_r r) := rfl
theorem sla_atHL : Statement .sla_atHL := rfl
theorem sra_r (r : Reg8) : Statement (.sra_r r) := rfl
theorem sra_atHL : Statement .sra_atHL := rfl
theorem swap_r (r : Reg8) : Statement (.swap_r r) := rfl
theorem swap_atHL : Statement .swap_atHL := rfl
theorem srl_r (r : Reg8) : Statement (.srl_r r) := rfl
theorem srl_atHL : Statement .srl_atHL := rfl
theorem bit_r (bit : Fin 8) (r : Reg8) : Statement (.bit_r bit r) := rfl
theorem bit_atHL (bit : Fin 8) : Statement (.bit_atHL bit) := rfl
theorem res_r (bit : Fin 8) (r : Reg8) : Statement (.res_r bit r) := rfl
theorem res_atHL (bit : Fin 8) : Statement (.res_atHL bit) := rfl
theorem set_r (bit : Fin 8) (r : Reg8) : Statement (.set_r bit r) := rfl
theorem set_atHL (bit : Fin 8) : Statement (.set_atHL bit) := rfl

end Sys2Proof.Laws.EncodedLength
end

