-- ==== Sys2Proof/Laws/Ticks.lean ====
section
/-! SUPPORT. What the devices' M-cycle changes and keeps (60_exceptions.md R505): each tick writes its own unit and IF. -/

namespace Sys2Proof.Machine

/-! #### `timaInc` -/

@[simp] theorem State.timaInc_regs (s : State) : (s.timaInc).regs = s.regs := by
  unfold State.timaInc; split <;> simp
@[simp] theorem State.timaInc_ctl (s : State) : (s.timaInc).ctl = s.ctl := by
  unfold State.timaInc; split <;> simp
@[simp] theorem State.timaInc_cycles (s : State) : (s.timaInc).cycles = s.cycles := by
  unfold State.timaInc; split <;> simp
@[simp] theorem State.timaInc_joy (s : State) : (s.timaInc).joy = s.joy := by
  unfold State.timaInc; split <;> simp
@[simp] theorem State.timaInc_ser (s : State) : (s.timaInc).ser = s.ser := by
  unfold State.timaInc; split <;> simp
@[simp] theorem State.timaInc_pic (s : State) : (s.timaInc).pic = s.pic := by
  unfold State.timaInc; split <;> simp
@[simp] theorem State.timaInc_snd (s : State) : (s.timaInc).snd = s.snd := by
  unfold State.timaInc; split <;> simp
@[simp] theorem State.timaInc_bank (s : State) : (s.timaInc).bank = s.bank := by
  unfold State.timaInc; split <;> simp
@[simp] theorem State.timaInc_mem (s : State) : (s.timaInc).mem = s.mem := by
  unfold State.timaInc; split <;> simp
@[simp] theorem State.timaInc_bootRom (s : State) : (s.timaInc).bootRom = s.bootRom := by
  unfold State.timaInc; split <;> simp
@[simp] theorem State.timaInc_bootOff (s : State) : (s.timaInc).bootOff = s.bootOff := by
  unfold State.timaInc; split <;> simp
@[simp] theorem State.timaInc_mapperUnsupported (s : State) : (s.timaInc).mapperUnsupported = s.mapperUnsupported := by
  unfold State.timaInc; split <;> simp
@[simp] theorem State.timaInc_haltBug (s : State) : (s.timaInc).haltBug = s.haltBug := by
  unfold State.timaInc; split <;> simp
@[simp] theorem State.timaInc_samplePeriod (s : State) : (s.timaInc).samplePeriod = s.samplePeriod := by
  unfold State.timaInc; split <;> simp
@[simp] theorem State.timaInc_ie (s : State) : (s.timaInc).irq.ie = s.irq.ie := by
  unfold State.timaInc; split <;> simp

/-! #### `timerTick` -/

@[simp] theorem State.timerTick_regs (s : State) : (s.timerTick).regs = s.regs := by
  unfold State.timerTick; dsimp only; split <;> simp
@[simp] theorem State.timerTick_ctl (s : State) : (s.timerTick).ctl = s.ctl := by
  unfold State.timerTick; dsimp only; split <;> simp
@[simp] theorem State.timerTick_cycles (s : State) : (s.timerTick).cycles = s.cycles := by
  unfold State.timerTick; dsimp only; split <;> simp
@[simp] theorem State.timerTick_joy (s : State) : (s.timerTick).joy = s.joy := by
  unfold State.timerTick; dsimp only; split <;> simp
@[simp] theorem State.timerTick_ser (s : State) : (s.timerTick).ser = s.ser := by
  unfold State.timerTick; dsimp only; split <;> simp
@[simp] theorem State.timerTick_pic (s : State) : (s.timerTick).pic = s.pic := by
  unfold State.timerTick; dsimp only; split <;> simp
@[simp] theorem State.timerTick_snd (s : State) : (s.timerTick).snd = s.snd := by
  unfold State.timerTick; dsimp only; split <;> simp
@[simp] theorem State.timerTick_bank (s : State) : (s.timerTick).bank = s.bank := by
  unfold State.timerTick; dsimp only; split <;> simp
@[simp] theorem State.timerTick_mem (s : State) : (s.timerTick).mem = s.mem := by
  unfold State.timerTick; dsimp only; split <;> simp
@[simp] theorem State.timerTick_bootRom (s : State) : (s.timerTick).bootRom = s.bootRom := by
  unfold State.timerTick; dsimp only; split <;> simp
@[simp] theorem State.timerTick_bootOff (s : State) : (s.timerTick).bootOff = s.bootOff := by
  unfold State.timerTick; dsimp only; split <;> simp
@[simp] theorem State.timerTick_mapperUnsupported (s : State) : (s.timerTick).mapperUnsupported = s.mapperUnsupported := by
  unfold State.timerTick; dsimp only; split <;> simp
@[simp] theorem State.timerTick_haltBug (s : State) : (s.timerTick).haltBug = s.haltBug := by
  unfold State.timerTick; dsimp only; split <;> simp
@[simp] theorem State.timerTick_samplePeriod (s : State) : (s.timerTick).samplePeriod = s.samplePeriod := by
  unfold State.timerTick; dsimp only; split <;> simp
@[simp] theorem State.timerTick_ie (s : State) : (s.timerTick).irq.ie = s.irq.ie := by
  unfold State.timerTick; dsimp only; split <;> simp

/-! #### `serialTick` -/

@[simp] theorem State.serialTick_regs (s : State) : (s.serialTick).regs = s.regs := by
  unfold State.serialTick; split <;> [rfl; split] <;> simp
@[simp] theorem State.serialTick_ctl (s : State) : (s.serialTick).ctl = s.ctl := by
  unfold State.serialTick; split <;> [rfl; split] <;> simp
@[simp] theorem State.serialTick_cycles (s : State) : (s.serialTick).cycles = s.cycles := by
  unfold State.serialTick; split <;> [rfl; split] <;> simp
@[simp] theorem State.serialTick_timer (s : State) : (s.serialTick).timer = s.timer := by
  unfold State.serialTick; split <;> [rfl; split] <;> simp
@[simp] theorem State.serialTick_joy (s : State) : (s.serialTick).joy = s.joy := by
  unfold State.serialTick; split <;> [rfl; split] <;> simp
@[simp] theorem State.serialTick_pic (s : State) : (s.serialTick).pic = s.pic := by
  unfold State.serialTick; split <;> [rfl; split] <;> simp
@[simp] theorem State.serialTick_snd (s : State) : (s.serialTick).snd = s.snd := by
  unfold State.serialTick; split <;> [rfl; split] <;> simp
@[simp] theorem State.serialTick_bank (s : State) : (s.serialTick).bank = s.bank := by
  unfold State.serialTick; split <;> [rfl; split] <;> simp
@[simp] theorem State.serialTick_mem (s : State) : (s.serialTick).mem = s.mem := by
  unfold State.serialTick; split <;> [rfl; split] <;> simp
@[simp] theorem State.serialTick_bootRom (s : State) : (s.serialTick).bootRom = s.bootRom := by
  unfold State.serialTick; split <;> [rfl; split] <;> simp
@[simp] theorem State.serialTick_bootOff (s : State) : (s.serialTick).bootOff = s.bootOff := by
  unfold State.serialTick; split <;> [rfl; split] <;> simp
@[simp] theorem State.serialTick_mapperUnsupported (s : State) : (s.serialTick).mapperUnsupported = s.mapperUnsupported := by
  unfold State.serialTick; split <;> [rfl; split] <;> simp
@[simp] theorem State.serialTick_haltBug (s : State) : (s.serialTick).haltBug = s.haltBug := by
  unfold State.serialTick; split <;> [rfl; split] <;> simp
@[simp] theorem State.serialTick_samplePeriod (s : State) : (s.serialTick).samplePeriod = s.samplePeriod := by
  unfold State.serialTick; split <;> [rfl; split] <;> simp
@[simp] theorem State.serialTick_ie (s : State) : (s.serialTick).irq.ie = s.irq.ie := by
  unfold State.serialTick; split <;> [rfl; split] <;> simp

/-! #### `statRequest` -/

@[simp] theorem State.statRequest_regs (s : State) (k : Nat) : (s.statRequest k).regs = s.regs := by
  unfold State.statRequest; split <;> simp
@[simp] theorem State.statRequest_ctl (s : State) (k : Nat) : (s.statRequest k).ctl = s.ctl := by
  unfold State.statRequest; split <;> simp
@[simp] theorem State.statRequest_cycles (s : State) (k : Nat) : (s.statRequest k).cycles = s.cycles := by
  unfold State.statRequest; split <;> simp
@[simp] theorem State.statRequest_timer (s : State) (k : Nat) : (s.statRequest k).timer = s.timer := by
  unfold State.statRequest; split <;> simp
@[simp] theorem State.statRequest_joy (s : State) (k : Nat) : (s.statRequest k).joy = s.joy := by
  unfold State.statRequest; split <;> simp
@[simp] theorem State.statRequest_ser (s : State) (k : Nat) : (s.statRequest k).ser = s.ser := by
  unfold State.statRequest; split <;> simp
@[simp] theorem State.statRequest_pic (s : State) (k : Nat) : (s.statRequest k).pic = s.pic := by
  unfold State.statRequest; split <;> simp
@[simp] theorem State.statRequest_snd (s : State) (k : Nat) : (s.statRequest k).snd = s.snd := by
  unfold State.statRequest; split <;> simp
@[simp] theorem State.statRequest_bank (s : State) (k : Nat) : (s.statRequest k).bank = s.bank := by
  unfold State.statRequest; split <;> simp
@[simp] theorem State.statRequest_mem (s : State) (k : Nat) : (s.statRequest k).mem = s.mem := by
  unfold State.statRequest; split <;> simp
@[simp] theorem State.statRequest_bootRom (s : State) (k : Nat) : (s.statRequest k).bootRom = s.bootRom := by
  unfold State.statRequest; split <;> simp
@[simp] theorem State.statRequest_bootOff (s : State) (k : Nat) : (s.statRequest k).bootOff = s.bootOff := by
  unfold State.statRequest; split <;> simp
@[simp] theorem State.statRequest_mapperUnsupported (s : State) (k : Nat) : (s.statRequest k).mapperUnsupported = s.mapperUnsupported := by
  unfold State.statRequest; split <;> simp
@[simp] theorem State.statRequest_haltBug (s : State) (k : Nat) : (s.statRequest k).haltBug = s.haltBug := by
  unfold State.statRequest; split <;> simp
@[simp] theorem State.statRequest_samplePeriod (s : State) (k : Nat) : (s.statRequest k).samplePeriod = s.samplePeriod := by
  unfold State.statRequest; split <;> simp
@[simp] theorem State.statRequest_ie (s : State) (k : Nat) : (s.statRequest k).irq.ie = s.irq.ie := by
  unfold State.statRequest; split <;> simp

/-! #### `lineCompare` -/

@[simp] theorem State.lineCompare_regs (s : State) : (s.lineCompare).regs = s.regs := by
  unfold State.lineCompare; dsimp only; split <;> simp
@[simp] theorem State.lineCompare_ctl (s : State) : (s.lineCompare).ctl = s.ctl := by
  unfold State.lineCompare; dsimp only; split <;> simp
@[simp] theorem State.lineCompare_cycles (s : State) : (s.lineCompare).cycles = s.cycles := by
  unfold State.lineCompare; dsimp only; split <;> simp
@[simp] theorem State.lineCompare_timer (s : State) : (s.lineCompare).timer = s.timer := by
  unfold State.lineCompare; dsimp only; split <;> simp
@[simp] theorem State.lineCompare_joy (s : State) : (s.lineCompare).joy = s.joy := by
  unfold State.lineCompare; dsimp only; split <;> simp
@[simp] theorem State.lineCompare_ser (s : State) : (s.lineCompare).ser = s.ser := by
  unfold State.lineCompare; dsimp only; split <;> simp
@[simp] theorem State.lineCompare_snd (s : State) : (s.lineCompare).snd = s.snd := by
  unfold State.lineCompare; dsimp only; split <;> simp
@[simp] theorem State.lineCompare_bank (s : State) : (s.lineCompare).bank = s.bank := by
  unfold State.lineCompare; dsimp only; split <;> simp
@[simp] theorem State.lineCompare_mem (s : State) : (s.lineCompare).mem = s.mem := by
  unfold State.lineCompare; dsimp only; split <;> simp
@[simp] theorem State.lineCompare_bootRom (s : State) : (s.lineCompare).bootRom = s.bootRom := by
  unfold State.lineCompare; dsimp only; split <;> simp
@[simp] theorem State.lineCompare_bootOff (s : State) : (s.lineCompare).bootOff = s.bootOff := by
  unfold State.lineCompare; dsimp only; split <;> simp
@[simp] theorem State.lineCompare_mapperUnsupported (s : State) : (s.lineCompare).mapperUnsupported = s.mapperUnsupported := by
  unfold State.lineCompare; dsimp only; split <;> simp
@[simp] theorem State.lineCompare_haltBug (s : State) : (s.lineCompare).haltBug = s.haltBug := by
  unfold State.lineCompare; dsimp only; split <;> simp
@[simp] theorem State.lineCompare_samplePeriod (s : State) : (s.lineCompare).samplePeriod = s.samplePeriod := by
  unfold State.lineCompare; dsimp only; split <;> simp
@[simp] theorem State.lineCompare_ie (s : State) : (s.lineCompare).irq.ie = s.irq.ie := by
  unfold State.lineCompare; dsimp only; split <;> simp

/-! #### `lineStart` -/

@[simp] theorem State.lineStart_regs (s : State) : (s.lineStart).regs = s.regs := by
  unfold State.lineStart; dsimp only; split <;> (split <;> [simp; (split <;> simp)])
@[simp] theorem State.lineStart_ctl (s : State) : (s.lineStart).ctl = s.ctl := by
  unfold State.lineStart; dsimp only; split <;> (split <;> [simp; (split <;> simp)])
@[simp] theorem State.lineStart_cycles (s : State) : (s.lineStart).cycles = s.cycles := by
  unfold State.lineStart; dsimp only; split <;> (split <;> [simp; (split <;> simp)])
@[simp] theorem State.lineStart_timer (s : State) : (s.lineStart).timer = s.timer := by
  unfold State.lineStart; dsimp only; split <;> (split <;> [simp; (split <;> simp)])
@[simp] theorem State.lineStart_joy (s : State) : (s.lineStart).joy = s.joy := by
  unfold State.lineStart; dsimp only; split <;> (split <;> [simp; (split <;> simp)])
@[simp] theorem State.lineStart_ser (s : State) : (s.lineStart).ser = s.ser := by
  unfold State.lineStart; dsimp only; split <;> (split <;> [simp; (split <;> simp)])
@[simp] theorem State.lineStart_snd (s : State) : (s.lineStart).snd = s.snd := by
  unfold State.lineStart; dsimp only; split <;> (split <;> [simp; (split <;> simp)])
@[simp] theorem State.lineStart_bank (s : State) : (s.lineStart).bank = s.bank := by
  unfold State.lineStart; dsimp only; split <;> (split <;> [simp; (split <;> simp)])
@[simp] theorem State.lineStart_mem (s : State) : (s.lineStart).mem = s.mem := by
  unfold State.lineStart; dsimp only; split <;> (split <;> [simp; (split <;> simp)])
@[simp] theorem State.lineStart_bootRom (s : State) : (s.lineStart).bootRom = s.bootRom := by
  unfold State.lineStart; dsimp only; split <;> (split <;> [simp; (split <;> simp)])
@[simp] theorem State.lineStart_bootOff (s : State) : (s.lineStart).bootOff = s.bootOff := by
  unfold State.lineStart; dsimp only; split <;> (split <;> [simp; (split <;> simp)])
@[simp] theorem State.lineStart_mapperUnsupported (s : State) : (s.lineStart).mapperUnsupported = s.mapperUnsupported := by
  unfold State.lineStart; dsimp only; split <;> (split <;> [simp; (split <;> simp)])
@[simp] theorem State.lineStart_haltBug (s : State) : (s.lineStart).haltBug = s.haltBug := by
  unfold State.lineStart; dsimp only; split <;> (split <;> [simp; (split <;> simp)])
@[simp] theorem State.lineStart_samplePeriod (s : State) : (s.lineStart).samplePeriod = s.samplePeriod := by
  unfold State.lineStart; dsimp only; split <;> (split <;> [simp; (split <;> simp)])
@[simp] theorem State.lineStart_ie (s : State) : (s.lineStart).irq.ie = s.irq.ie := by
  unfold State.lineStart; dsimp only; split <;> (split <;> [simp; (split <;> simp)])

/-! #### `windowCount` -/

@[simp] theorem State.windowCount_regs (s : State) : (s.windowCount).regs = s.regs := by
  unfold State.windowCount; split <;> rfl
@[simp] theorem State.windowCount_ctl (s : State) : (s.windowCount).ctl = s.ctl := by
  unfold State.windowCount; split <;> rfl
@[simp] theorem State.windowCount_cycles (s : State) : (s.windowCount).cycles = s.cycles := by
  unfold State.windowCount; split <;> rfl
@[simp] theorem State.windowCount_irq (s : State) : (s.windowCount).irq = s.irq := by
  unfold State.windowCount; split <;> rfl
@[simp] theorem State.windowCount_timer (s : State) : (s.windowCount).timer = s.timer := by
  unfold State.windowCount; split <;> rfl
@[simp] theorem State.windowCount_joy (s : State) : (s.windowCount).joy = s.joy := by
  unfold State.windowCount; split <;> rfl
@[simp] theorem State.windowCount_ser (s : State) : (s.windowCount).ser = s.ser := by
  unfold State.windowCount; split <;> rfl
@[simp] theorem State.windowCount_snd (s : State) : (s.windowCount).snd = s.snd := by
  unfold State.windowCount; split <;> rfl
@[simp] theorem State.windowCount_bank (s : State) : (s.windowCount).bank = s.bank := by
  unfold State.windowCount; split <;> rfl
@[simp] theorem State.windowCount_mem (s : State) : (s.windowCount).mem = s.mem := by
  unfold State.windowCount; split <;> rfl
@[simp] theorem State.windowCount_bootRom (s : State) : (s.windowCount).bootRom = s.bootRom := by
  unfold State.windowCount; split <;> rfl
@[simp] theorem State.windowCount_bootOff (s : State) : (s.windowCount).bootOff = s.bootOff := by
  unfold State.windowCount; split <;> rfl
@[simp] theorem State.windowCount_mapperUnsupported (s : State) : (s.windowCount).mapperUnsupported = s.mapperUnsupported := by
  unfold State.windowCount; split <;> rfl
@[simp] theorem State.windowCount_haltBug (s : State) : (s.windowCount).haltBug = s.haltBug := by
  unfold State.windowCount; split <;> rfl
@[simp] theorem State.windowCount_samplePeriod (s : State) : (s.windowCount).samplePeriod = s.samplePeriod := by
  unfold State.windowCount; split <;> rfl

/-! #### `emitLine` -/

@[simp] theorem State.emitLine_regs (s : State) : (s.emitLine).regs = s.regs := by
  rfl
@[simp] theorem State.emitLine_ctl (s : State) : (s.emitLine).ctl = s.ctl := by
  rfl
@[simp] theorem State.emitLine_cycles (s : State) : (s.emitLine).cycles = s.cycles := by
  rfl
@[simp] theorem State.emitLine_irq (s : State) : (s.emitLine).irq = s.irq := by
  rfl
@[simp] theorem State.emitLine_timer (s : State) : (s.emitLine).timer = s.timer := by
  rfl
@[simp] theorem State.emitLine_joy (s : State) : (s.emitLine).joy = s.joy := by
  rfl
@[simp] theorem State.emitLine_ser (s : State) : (s.emitLine).ser = s.ser := by
  rfl
@[simp] theorem State.emitLine_snd (s : State) : (s.emitLine).snd = s.snd := by
  rfl
@[simp] theorem State.emitLine_bank (s : State) : (s.emitLine).bank = s.bank := by
  rfl
@[simp] theorem State.emitLine_mem (s : State) : (s.emitLine).mem = s.mem := by
  rfl
@[simp] theorem State.emitLine_bootRom (s : State) : (s.emitLine).bootRom = s.bootRom := by
  rfl
@[simp] theorem State.emitLine_bootOff (s : State) : (s.emitLine).bootOff = s.bootOff := by
  rfl
@[simp] theorem State.emitLine_mapperUnsupported (s : State) : (s.emitLine).mapperUnsupported = s.mapperUnsupported := by
  rfl
@[simp] theorem State.emitLine_haltBug (s : State) : (s.emitLine).haltBug = s.haltBug := by
  rfl
@[simp] theorem State.emitLine_samplePeriod (s : State) : (s.emitLine).samplePeriod = s.samplePeriod := by
  rfl

/-! #### `offTick` -/

@[simp] theorem State.offTick_regs (s : State) : (s.offTick).regs = s.regs := by
  unfold State.offTick; split <;> rfl
@[simp] theorem State.offTick_ctl (s : State) : (s.offTick).ctl = s.ctl := by
  unfold State.offTick; split <;> rfl
@[simp] theorem State.offTick_cycles (s : State) : (s.offTick).cycles = s.cycles := by
  unfold State.offTick; split <;> rfl
@[simp] theorem State.offTick_irq (s : State) : (s.offTick).irq = s.irq := by
  unfold State.offTick; split <;> rfl
@[simp] theorem State.offTick_timer (s : State) : (s.offTick).timer = s.timer := by
  unfold State.offTick; split <;> rfl
@[simp] theorem State.offTick_joy (s : State) : (s.offTick).joy = s.joy := by
  unfold State.offTick; split <;> rfl
@[simp] theorem State.offTick_ser (s : State) : (s.offTick).ser = s.ser := by
  unfold State.offTick; split <;> rfl
@[simp] theorem State.offTick_snd (s : State) : (s.offTick).snd = s.snd := by
  unfold State.offTick; split <;> rfl
@[simp] theorem State.offTick_bank (s : State) : (s.offTick).bank = s.bank := by
  unfold State.offTick; split <;> rfl
@[simp] theorem State.offTick_mem (s : State) : (s.offTick).mem = s.mem := by
  unfold State.offTick; split <;> rfl
@[simp] theorem State.offTick_bootRom (s : State) : (s.offTick).bootRom = s.bootRom := by
  unfold State.offTick; split <;> rfl
@[simp] theorem State.offTick_bootOff (s : State) : (s.offTick).bootOff = s.bootOff := by
  unfold State.offTick; split <;> rfl
@[simp] theorem State.offTick_mapperUnsupported (s : State) : (s.offTick).mapperUnsupported = s.mapperUnsupported := by
  unfold State.offTick; split <;> rfl
@[simp] theorem State.offTick_haltBug (s : State) : (s.offTick).haltBug = s.haltBug := by
  unfold State.offTick; split <;> rfl
@[simp] theorem State.offTick_samplePeriod (s : State) : (s.offTick).samplePeriod = s.samplePeriod := by
  unfold State.offTick; split <;> rfl

/-! #### `lineTick` -/

@[simp] theorem State.lineTick_regs (s : State) : (s.lineTick).regs = s.regs := by
  unfold State.lineTick; dsimp only; split <;> [simp; (split <;> [simp; (split <;> simp)])]
@[simp] theorem State.lineTick_ctl (s : State) : (s.lineTick).ctl = s.ctl := by
  unfold State.lineTick; dsimp only; split <;> [simp; (split <;> [simp; (split <;> simp)])]
@[simp] theorem State.lineTick_cycles (s : State) : (s.lineTick).cycles = s.cycles := by
  unfold State.lineTick; dsimp only; split <;> [simp; (split <;> [simp; (split <;> simp)])]
@[simp] theorem State.lineTick_timer (s : State) : (s.lineTick).timer = s.timer := by
  unfold State.lineTick; dsimp only; split <;> [simp; (split <;> [simp; (split <;> simp)])]
@[simp] theorem State.lineTick_joy (s : State) : (s.lineTick).joy = s.joy := by
  unfold State.lineTick; dsimp only; split <;> [simp; (split <;> [simp; (split <;> simp)])]
@[simp] theorem State.lineTick_ser (s : State) : (s.lineTick).ser = s.ser := by
  unfold State.lineTick; dsimp only; split <;> [simp; (split <;> [simp; (split <;> simp)])]
@[simp] theorem State.lineTick_snd (s : State) : (s.lineTick).snd = s.snd := by
  unfold State.lineTick; dsimp only; split <;> [simp; (split <;> [simp; (split <;> simp)])]
@[simp] theorem State.lineTick_bank (s : State) : (s.lineTick).bank = s.bank := by
  unfold State.lineTick; dsimp only; split <;> [simp; (split <;> [simp; (split <;> simp)])]
@[simp] theorem State.lineTick_mem (s : State) : (s.lineTick).mem = s.mem := by
  unfold State.lineTick; dsimp only; split <;> [simp; (split <;> [simp; (split <;> simp)])]
@[simp] theorem State.lineTick_bootRom (s : State) : (s.lineTick).bootRom = s.bootRom := by
  unfold State.lineTick; dsimp only; split <;> [simp; (split <;> [simp; (split <;> simp)])]
@[simp] theorem State.lineTick_bootOff (s : State) : (s.lineTick).bootOff = s.bootOff := by
  unfold State.lineTick; dsimp only; split <;> [simp; (split <;> [simp; (split <;> simp)])]
@[simp] theorem State.lineTick_mapperUnsupported (s : State) : (s.lineTick).mapperUnsupported = s.mapperUnsupported := by
  unfold State.lineTick; dsimp only; split <;> [simp; (split <;> [simp; (split <;> simp)])]
@[simp] theorem State.lineTick_haltBug (s : State) : (s.lineTick).haltBug = s.haltBug := by
  unfold State.lineTick; dsimp only; split <;> [simp; (split <;> [simp; (split <;> simp)])]
@[simp] theorem State.lineTick_samplePeriod (s : State) : (s.lineTick).samplePeriod = s.samplePeriod := by
  unfold State.lineTick; dsimp only; split <;> [simp; (split <;> [simp; (split <;> simp)])]
@[simp] theorem State.lineTick_ie (s : State) : (s.lineTick).irq.ie = s.irq.ie := by
  unfold State.lineTick; dsimp only; split <;> [simp; (split <;> [simp; (split <;> simp)])]

/-! #### `ppuTick` -/

@[simp] theorem State.ppuTick_regs (s : State) : (s.ppuTick).regs = s.regs := by
  unfold State.ppuTick; split <;> simp
@[simp] theorem State.ppuTick_ctl (s : State) : (s.ppuTick).ctl = s.ctl := by
  unfold State.ppuTick; split <;> simp
@[simp] theorem State.ppuTick_cycles (s : State) : (s.ppuTick).cycles = s.cycles := by
  unfold State.ppuTick; split <;> simp
@[simp] theorem State.ppuTick_timer (s : State) : (s.ppuTick).timer = s.timer := by
  unfold State.ppuTick; split <;> simp
@[simp] theorem State.ppuTick_joy (s : State) : (s.ppuTick).joy = s.joy := by
  unfold State.ppuTick; split <;> simp
@[simp] theorem State.ppuTick_ser (s : State) : (s.ppuTick).ser = s.ser := by
  unfold State.ppuTick; split <;> simp
@[simp] theorem State.ppuTick_snd (s : State) : (s.ppuTick).snd = s.snd := by
  unfold State.ppuTick; split <;> simp
@[simp] theorem State.ppuTick_bank (s : State) : (s.ppuTick).bank = s.bank := by
  unfold State.ppuTick; split <;> simp
@[simp] theorem State.ppuTick_mem (s : State) : (s.ppuTick).mem = s.mem := by
  unfold State.ppuTick; split <;> simp
@[simp] theorem State.ppuTick_bootRom (s : State) : (s.ppuTick).bootRom = s.bootRom := by
  unfold State.ppuTick; split <;> simp
@[simp] theorem State.ppuTick_bootOff (s : State) : (s.ppuTick).bootOff = s.bootOff := by
  unfold State.ppuTick; split <;> simp
@[simp] theorem State.ppuTick_mapperUnsupported (s : State) : (s.ppuTick).mapperUnsupported = s.mapperUnsupported := by
  unfold State.ppuTick; split <;> simp
@[simp] theorem State.ppuTick_haltBug (s : State) : (s.ppuTick).haltBug = s.haltBug := by
  unfold State.ppuTick; split <;> simp
@[simp] theorem State.ppuTick_samplePeriod (s : State) : (s.ppuTick).samplePeriod = s.samplePeriod := by
  unfold State.ppuTick; split <;> simp
@[simp] theorem State.ppuTick_ie (s : State) : (s.ppuTick).irq.ie = s.irq.ie := by
  unfold State.ppuTick; split <;> simp

/-! #### `sampleTick` -/

@[simp] theorem State.sampleTick_regs (s : State) : (s.sampleTick).regs = s.regs := by
  rfl
@[simp] theorem State.sampleTick_ctl (s : State) : (s.sampleTick).ctl = s.ctl := by
  rfl
@[simp] theorem State.sampleTick_cycles (s : State) : (s.sampleTick).cycles = s.cycles := by
  rfl
@[simp] theorem State.sampleTick_irq (s : State) : (s.sampleTick).irq = s.irq := by
  rfl
@[simp] theorem State.sampleTick_timer (s : State) : (s.sampleTick).timer = s.timer := by
  rfl
@[simp] theorem State.sampleTick_joy (s : State) : (s.sampleTick).joy = s.joy := by
  rfl
@[simp] theorem State.sampleTick_ser (s : State) : (s.sampleTick).ser = s.ser := by
  rfl
@[simp] theorem State.sampleTick_pic (s : State) : (s.sampleTick).pic = s.pic := by
  rfl
@[simp] theorem State.sampleTick_bank (s : State) : (s.sampleTick).bank = s.bank := by
  rfl
@[simp] theorem State.sampleTick_mem (s : State) : (s.sampleTick).mem = s.mem := by
  rfl
@[simp] theorem State.sampleTick_bootRom (s : State) : (s.sampleTick).bootRom = s.bootRom := by
  rfl
@[simp] theorem State.sampleTick_bootOff (s : State) : (s.sampleTick).bootOff = s.bootOff := by
  rfl
@[simp] theorem State.sampleTick_mapperUnsupported (s : State) : (s.sampleTick).mapperUnsupported = s.mapperUnsupported := by
  rfl
@[simp] theorem State.sampleTick_haltBug (s : State) : (s.sampleTick).haltBug = s.haltBug := by
  rfl
@[simp] theorem State.sampleTick_samplePeriod (s : State) : (s.sampleTick).samplePeriod = s.samplePeriod := by
  rfl

/-! #### `apuTick` -/

@[simp] theorem State.apuTick_regs (s : State) : (s.apuTick).regs = s.regs := by
  unfold State.apuTick; dsimp only; split <;> rfl
@[simp] theorem State.apuTick_ctl (s : State) : (s.apuTick).ctl = s.ctl := by
  unfold State.apuTick; dsimp only; split <;> rfl
@[simp] theorem State.apuTick_cycles (s : State) : (s.apuTick).cycles = s.cycles := by
  unfold State.apuTick; dsimp only; split <;> rfl
@[simp] theorem State.apuTick_irq (s : State) : (s.apuTick).irq = s.irq := by
  unfold State.apuTick; dsimp only; split <;> rfl
@[simp] theorem State.apuTick_timer (s : State) : (s.apuTick).timer = s.timer := by
  unfold State.apuTick; dsimp only; split <;> rfl
@[simp] theorem State.apuTick_joy (s : State) : (s.apuTick).joy = s.joy := by
  unfold State.apuTick; dsimp only; split <;> rfl
@[simp] theorem State.apuTick_ser (s : State) : (s.apuTick).ser = s.ser := by
  unfold State.apuTick; dsimp only; split <;> rfl
@[simp] theorem State.apuTick_pic (s : State) : (s.apuTick).pic = s.pic := by
  unfold State.apuTick; dsimp only; split <;> rfl
@[simp] theorem State.apuTick_bank (s : State) : (s.apuTick).bank = s.bank := by
  unfold State.apuTick; dsimp only; split <;> rfl
@[simp] theorem State.apuTick_mem (s : State) : (s.apuTick).mem = s.mem := by
  unfold State.apuTick; dsimp only; split <;> rfl
@[simp] theorem State.apuTick_bootRom (s : State) : (s.apuTick).bootRom = s.bootRom := by
  unfold State.apuTick; dsimp only; split <;> rfl
@[simp] theorem State.apuTick_bootOff (s : State) : (s.apuTick).bootOff = s.bootOff := by
  unfold State.apuTick; dsimp only; split <;> rfl
@[simp] theorem State.apuTick_mapperUnsupported (s : State) : (s.apuTick).mapperUnsupported = s.mapperUnsupported := by
  unfold State.apuTick; dsimp only; split <;> rfl
@[simp] theorem State.apuTick_haltBug (s : State) : (s.apuTick).haltBug = s.haltBug := by
  unfold State.apuTick; dsimp only; split <;> rfl
@[simp] theorem State.apuTick_samplePeriod (s : State) : (s.apuTick).samplePeriod = s.samplePeriod := by
  unfold State.apuTick; dsimp only; split <;> rfl

/-! #### `tick` -/

@[simp] theorem State.tick_regs (s : State) : (s.tick).regs = s.regs := by
  simp [State.tick]
@[simp] theorem State.tick_ctl (s : State) : (s.tick).ctl = s.ctl := by
  simp [State.tick]
@[simp] theorem State.tick_cycles (s : State) : (s.tick).cycles = s.cycles := by
  simp [State.tick]
@[simp] theorem State.tick_joy (s : State) : (s.tick).joy = s.joy := by
  simp [State.tick]
@[simp] theorem State.tick_bank (s : State) : (s.tick).bank = s.bank := by
  simp [State.tick]
@[simp] theorem State.tick_mem (s : State) : (s.tick).mem = s.mem := by
  simp [State.tick]
@[simp] theorem State.tick_bootRom (s : State) : (s.tick).bootRom = s.bootRom := by
  simp [State.tick]
@[simp] theorem State.tick_bootOff (s : State) : (s.tick).bootOff = s.bootOff := by
  simp [State.tick]
@[simp] theorem State.tick_mapperUnsupported (s : State) : (s.tick).mapperUnsupported = s.mapperUnsupported := by
  simp [State.tick]
@[simp] theorem State.tick_haltBug (s : State) : (s.tick).haltBug = s.haltBug := by
  simp [State.tick]
@[simp] theorem State.tick_samplePeriod (s : State) : (s.tick).samplePeriod = s.samplePeriod := by
  simp [State.tick]
@[simp] theorem State.tick_ie (s : State) : (s.tick).irq.ie = s.irq.ie := by
  simp [State.tick]

@[simp] theorem State.ticks_zero (s : State) : State.ticks 0 s = s := rfl

theorem State.ticks_succ (n : Nat) (s : State) : State.ticks (n + 1) s = State.ticks n s.tick := rfl

/-- Any property that one tick keeps, any number of ticks keeps. -/
theorem State.ticks_induct {P : State → Prop} (h : ∀ s, P s → P s.tick) : ∀ n s, P s → P (State.ticks n s)
  | 0, _, hs => hs
  | n + 1, s, hs => State.ticks_induct h n s.tick (h s hs)

/-- A part of the state that one tick keeps, any number of ticks keeps. -/
theorem State.ticks_keep {α : Type} {f : State → α} (h : ∀ s, f s.tick = f s) : ∀ n s, f (State.ticks n s) = f s
  | 0, _ => rfl
  | n + 1, s => (State.ticks_keep h n s.tick).trans (h s)

/-- Ticks add up. -/
theorem State.ticks_add (m n : Nat) (s : State) : State.ticks (m + n) s = State.ticks n (State.ticks m s) := by
  induction m generalizing s with
  | zero => simp
  | succ m ih => rw [Nat.succ_add, State.ticks_succ, State.ticks_succ, ih]

@[simp] theorem State.ticks_regs (n : Nat) (s : State) : (State.ticks n s).regs = s.regs :=
  State.ticks_keep (f := State.regs) State.tick_regs n s
@[simp] theorem State.ticks_ctl (n : Nat) (s : State) : (State.ticks n s).ctl = s.ctl :=
  State.ticks_keep (f := State.ctl) State.tick_ctl n s
@[simp] theorem State.ticks_cycles (n : Nat) (s : State) : (State.ticks n s).cycles = s.cycles :=
  State.ticks_keep (f := State.cycles) State.tick_cycles n s
@[simp] theorem State.ticks_joy (n : Nat) (s : State) : (State.ticks n s).joy = s.joy :=
  State.ticks_keep (f := State.joy) State.tick_joy n s
@[simp] theorem State.ticks_bank (n : Nat) (s : State) : (State.ticks n s).bank = s.bank :=
  State.ticks_keep (f := State.bank) State.tick_bank n s
@[simp] theorem State.ticks_mem (n : Nat) (s : State) : (State.ticks n s).mem = s.mem :=
  State.ticks_keep (f := State.mem) State.tick_mem n s
@[simp] theorem State.ticks_bootRom (n : Nat) (s : State) : (State.ticks n s).bootRom = s.bootRom :=
  State.ticks_keep (f := State.bootRom) State.tick_bootRom n s
@[simp] theorem State.ticks_bootOff (n : Nat) (s : State) : (State.ticks n s).bootOff = s.bootOff :=
  State.ticks_keep (f := State.bootOff) State.tick_bootOff n s
@[simp] theorem State.ticks_mapperUnsupported (n : Nat) (s : State) : (State.ticks n s).mapperUnsupported = s.mapperUnsupported :=
  State.ticks_keep (f := State.mapperUnsupported) State.tick_mapperUnsupported n s
@[simp] theorem State.ticks_haltBug (n : Nat) (s : State) : (State.ticks n s).haltBug = s.haltBug :=
  State.ticks_keep (f := State.haltBug) State.tick_haltBug n s
@[simp] theorem State.ticks_samplePeriod (n : Nat) (s : State) : (State.ticks n s).samplePeriod = s.samplePeriod :=
  State.ticks_keep (f := State.samplePeriod) State.tick_samplePeriod n s
@[simp] theorem State.ticks_ie (n : Nat) (s : State) : (State.ticks n s).irq.ie = s.irq.ie :=
  State.ticks_keep (f := fun x => x.irq.ie) (by intro x; simp [State.tick]) n s
@[simp] theorem State.advance_regs (s : State) (n : Nat) : (s.advance n).regs = s.regs := by simp [State.advance]
@[simp] theorem State.advance_ctl (s : State) (n : Nat) : (s.advance n).ctl = s.ctl := by simp [State.advance]
@[simp] theorem State.advance_joy (s : State) (n : Nat) : (s.advance n).joy = s.joy := by simp [State.advance]
@[simp] theorem State.advance_bank (s : State) (n : Nat) : (s.advance n).bank = s.bank := by simp [State.advance]
@[simp] theorem State.advance_mem (s : State) (n : Nat) : (s.advance n).mem = s.mem := by simp [State.advance]
@[simp] theorem State.advance_bootRom (s : State) (n : Nat) : (s.advance n).bootRom = s.bootRom := by simp [State.advance]
@[simp] theorem State.advance_bootOff (s : State) (n : Nat) : (s.advance n).bootOff = s.bootOff := by simp [State.advance]
@[simp] theorem State.advance_mapperUnsupported (s : State) (n : Nat) : (s.advance n).mapperUnsupported = s.mapperUnsupported := by simp [State.advance]
@[simp] theorem State.advance_haltBug (s : State) (n : Nat) : (s.advance n).haltBug = s.haltBug := by simp [State.advance]
@[simp] theorem State.advance_samplePeriod (s : State) (n : Nat) : (s.advance n).samplePeriod = s.samplePeriod := by simp [State.advance]

/-- A step of `n` M-cycles adds `n` to the counter (10_state.md R46). -/
@[simp] theorem State.advance_cycles (s : State) (n : Nat) : (s.advance n).cycles = s.cycles + n := by simp [State.advance]

@[simp] theorem State.advance_ie (s : State) (n : Nat) : (s.advance n).irq.ie = s.irq.ie := by simp [State.advance]

end Sys2Proof.Machine
end

