-- ==== Sys2Proof/Laws/Units.lean ====
section
/-! SUPPORT. Every register write and every M-cycle keeps the PictureTimer, the SoundTimer and the serial unit in range
(`PicOk`, `SndOk`, `DacOk`, `SerOk`). -/

namespace Sys2Proof.Machine

/-! #### The PictureTimer -/

theorem insertSprite_perm (oam : Store) (i : Nat) : ∀ l : List Nat, (insertSprite oam i l).Perm (i :: l)
  | [] => List.Perm.refl _
  | j :: rest => by
    unfold insertSprite
    split
    · exact List.Perm.refl _
    · exact (List.Perm.cons j (insertSprite_perm oam i rest)).trans (List.Perm.swap i j rest)

/-- Sorting keeps the chosen indexes (60_exceptions.md R610). -/
theorem sortSprites_perm (oam : Store) : ∀ l : List Nat, (sortSprites oam l).Perm l
  | [] => List.Perm.refl _
  | i :: rest => (insertSprite_perm oam i _).trans (List.Perm.cons i (sortSprites_perm oam rest))

/-- The selected list holds what `chooseSprites` chose, in another order. -/
theorem selectSprites_perm (oam : Store) (lcdc : Byte) (line : Nat) :
    (selectSprites oam lcdc line).Perm (chooseSprites oam lcdc line) := sortSprites_perm oam _

theorem selectSprites_length (oam : Store) (lcdc : Byte) (line : Nat) : (selectSprites oam lcdc line).length ≤ 10 := by
  rw [(selectSprites_perm oam lcdc line).length_eq]
  simp only [chooseSprites, List.length_take]
  omega

theorem selectSprites_lt (oam : Store) (lcdc : Byte) (line : Nat) : ∀ i ∈ selectSprites oam lcdc line, i < 40 := by
  intro i hi
  have h := (selectSprites_perm oam lcdc line).mem_iff.1 hi
  have h2 := (List.mem_filter.1 (List.mem_of_mem_take h)).1
  exact List.mem_range.1 h2

/-- `PicOk` looks at the picture unit only. -/
theorem State.PicOk.of_pic {s t : State} (h : s.PicOk) (hp : t.pic = s.pic) : t.PicOk := by
  unfold State.PicOk State.displayOn at *
  rw [hp]; exact h

theorem State.PicOk.of_fields {s : State} (h : s.PicOk) {x : Picture} (h1 : x.lcdc = s.pic.lcdc) (h2 : x.ly = s.pic.ly)
    (h3 : x.u = s.pic.u) (h4 : x.mode = s.pic.mode) (h5 : x.offCount = s.pic.offCount)
    (h6 : x.lineSprites = s.pic.lineSprites) : ({ s with pic := x } : State).PicOk := by
  unfold State.PicOk State.displayOn at *
  simp only [h1, h2, h3, h4, h5, h6]
  exact h

/-- A write to LCDC keeps `PicOk` (60_exceptions.md R630). -/
theorem State.PicOk.writeLcdc {s : State} (h : s.PicOk) (v : Byte) : (s.writeLcdc v).PicOk := by
  have hl := selectSprites_length s.mem.oam v 0
  have hlt := selectSprites_lt s.mem.oam v 0
  unfold State.writeLcdc
  dsimp only
  split
  · rename_i h1 h2
    refine ⟨by show (0 : Nat) < 17556; omega, by show ([] : List Nat).length ≤ 10; simp, ?_, ?_, ?_⟩
    · intro i hi; exact absurd hi (List.not_mem_nil)
    · intro hd
      have : v.getLsbD 7 = true := hd
      rw [h2] at this; exact absurd this (by decide)
    · intro _; exact ⟨rfl, rfl, rfl, rfl⟩
  · rename_i h1 h2
    refine ⟨h.1, hl, hlt, ?_, ?_⟩
    · intro _
      refine ⟨by show (0 : Nat) < 154; omega, by show (0 : Nat) < 114; omega, rfl, ?_⟩
      intro hge
      exact absurd (show 144 ≤ 0 from hge) (by omega)
    · intro hd
      have : v.getLsbD 7 = false := hd
      rw [h2] at this; exact absurd this (by decide)
  · rename_i h1 h2
    have heq : v.getLsbD 7 = s.displayOn := by
      cases hv : v.getLsbD 7 <;> cases hd : s.displayOn
      · rfl
      · exact absurd hv (h1 hd)
      · exact absurd hv (h2 hd)
      · rfl
    unfold State.PicOk
    have hd : ({ s with pic := { s.pic with lcdc := v } } : State).displayOn = s.displayOn := heq
    rw [hd]
    exact h

/-- Every I/O write keeps `PicOk`. -/
theorem State.PicOk.ioWrite {s : State} (h : s.PicOk) (off : Nat) (v : Byte) : (s.ioWrite off v).PicOk := by
  unfold State.ioWrite
  split
  · rename_i r hr
    refine State.writeReg_cases (P := fun t => t.PicOk) s r v ?_ ?_ ?_ ?_ ?_ ?_ ?_ ?_ ?_ ?_ ?_ ?_ ?_
    · intro _; exact h.of_pic (by simp)
    · intro _; exact h.of_pic rfl
    · intro _; exact h.writeLcdc v
    · intro _
      have h2 : ({ s with pic := { s.pic with dma := v } } : State).PicOk := h.of_fields rfl rfl rfl rfl rfl rfl
      exact h2.of_pic (State.dmaLoop_pic _ v 160 0)
    · exact h
    · intros; exact h.of_pic rfl
    · intros; exact h.of_pic rfl
    · exact h.of_pic rfl
    · intros; exact h.of_pic rfl
    · exact h.of_pic rfl
    · intros; exact h.of_pic rfl
    · intro x h1 h2 h3 h4 h5 h6 _ _ _ _; exact h.of_fields h1 h2 h3 h4 h5 h6
    · exact h.of_pic rfl
  · exact h

/-- Every bus write keeps `PicOk`. -/
theorem State.PicOk.busWrite {s : State} (h : s.PicOk) (a : Word) (v : Byte) : (s.busWrite a v).PicOk := by
  refine State.busWrite_cases (P := fun t => t.PicOk) s a v ?_ ?_ ?_ ?_ ?_ ?_ ?_ ?_ ?_
  · intro _; exact h.of_pic rfl
  · intro _ _ _; exact h.of_pic rfl
  · intro _; exact h
  · intro _ _; exact h.of_pic (by simp)
  · intro _ _ _ _ _; exact h.of_pic rfl
  · intro _ _ _; exact h.of_pic rfl
  · intro _ _; exact h.ioWrite _ v
  · intro _ _; exact h.of_pic rfl
  · intro _; exact h.of_pic rfl

/-- What `LineStart()` leaves in the picture unit (60_exceptions.md R603). -/
theorem State.lineStart_pic (s : State) :
    s.lineStart.pic =
      { s.pic with
        winLine := if s.pic.ly = 0 then 0 else s.pic.winLine
        coinc := s.pic.ly == s.pic.lyc.toNat
        mode := if s.pic.ly < 144 then .oamSearch else if s.pic.ly = 144 then .vblank else s.pic.mode
        lineSprites := if s.pic.ly < 144 then selectSprites s.mem.oam s.pic.lcdc s.pic.ly
          else if s.pic.ly = 144 then [] else s.pic.lineSprites
        frameDone := if s.pic.ly = 144 then true else s.pic.frameDone } := by
  have hc : ∀ x : State, x.lineCompare.pic = { x.pic with coinc := x.pic.ly == x.pic.lyc.toNat } := by
    intro x; unfold State.lineCompare; dsimp only; split <;> simp
  have hcm : ∀ x : State, x.lineCompare.mem = x.mem := by
    intro x; unfold State.lineCompare; dsimp only; split <;> simp
  unfold State.lineStart
  dsimp only
  by_cases h0 : s.pic.ly = 0
  · simp only [h0, if_true, hc, hcm]
    simp
  · simp only [h0, if_false, hc, hcm]
    by_cases h1 : s.pic.ly < 144
    · simp [h1, show s.pic.ly ≠ 144 by omega]
    · by_cases h2 : s.pic.ly = 144
      · simp [h2, State.request]
      · simp [h1, h2]
        exact hc s

/-- An M-cycle of the PictureTimer keeps `PicOk` (60_exceptions.md R601, R602, R631). -/
theorem State.PicOk.ppuTick {s : State} (h : s.PicOk) : s.ppuTick.PicOk := by
  obtain ⟨h1, h2, h3, h4, h5⟩ := h
  unfold State.ppuTick
  split
  · rename_i hon
    obtain ⟨hly, hu, hmode, hspr⟩ := h4 hon
    unfold State.lineTick
    dsimp only
    split
    · rename_i hu114
      have hp := State.lineStart_pic { s with pic := { s.pic with u := 0, ly := (s.pic.ly + 1) % 154 } }
      generalize hw : State.lineStart { s with pic := { s.pic with u := 0, ly := (s.pic.ly + 1) % 154 } } = w at hp
      have hd : w.displayOn = true := by unfold State.displayOn; rw [hp]; exact hon
      unfold State.PicOk
      rw [hd, hp]
      dsimp only
      have hsl := selectSprites_length s.mem.oam s.pic.lcdc ((s.pic.ly + 1) % 154)
      have hslt := selectSprites_lt s.mem.oam s.pic.lcdc ((s.pic.ly + 1) % 154)
      refine ⟨h1, ?_, ?_, ?_, by simp⟩
      · split <;> [exact hsl; split <;> [simp; exact h2]]
      · split <;> [exact hslt; split <;> [simp; exact h3]]
      · intro _
        refine ⟨by omega, by omega, ?_, ?_⟩
        · by_cases hx : s.pic.ly + 1 < 144
          · have e : (s.pic.ly + 1) % 154 = s.pic.ly + 1 := by omega
            simp [e, hx, scheduledMode, show ¬ (144 ≤ s.pic.ly + 1) by omega]
          · by_cases hz : s.pic.ly = 153
            · simp [hz, scheduledMode]
            · have e : (s.pic.ly + 1) % 154 = s.pic.ly + 1 := by omega
              rw [e, if_neg hx]
              by_cases hy : s.pic.ly + 1 = 144
              · rw [if_pos hy]; simp [scheduledMode, hy]
              · rw [if_neg hy, hmode]
                simp [scheduledMode, show 144 ≤ s.pic.ly by omega, show 144 ≤ s.pic.ly + 1 by omega]
        · intro hge
          rw [if_neg (by omega)]
          split
          · rfl
          · exact hspr (by omega)
    · rename_i hu114
      split
      · rename_i hc
        have hp : ∀ x : State, x.emitLine.windowCount.pic.offCount = x.pic.offCount ∧ x.emitLine.windowCount.pic.lineSprites = x.pic.lineSprites
            ∧ x.emitLine.windowCount.pic.ly = x.pic.ly ∧ x.emitLine.windowCount.pic.u = x.pic.u ∧ x.emitLine.windowCount.pic.mode = x.pic.mode
            ∧ x.emitLine.windowCount.pic.lcdc = x.pic.lcdc := by
          intro x; unfold State.windowCount; split <;> exact ⟨rfl, rfl, rfl, rfl, rfl, rfl⟩
        obtain ⟨p1, p2, p3, p4, p5, p6⟩ := hp { s with pic := { s.pic with u := s.pic.u + 1, mode := .transfer } }
        have hd : (State.windowCount (State.emitLine { s with pic := { s.pic with u := s.pic.u + 1, mode := .transfer } })).displayOn = true := by
          unfold State.displayOn; rw [p6]; exact hon
        unfold State.PicOk
        rw [hd, p1, p2, p3, p4, p5]
        dsimp only
        refine ⟨h1, h2, h3, ?_, by simp⟩
        intro _
        exact ⟨hly, by omega, by simp [scheduledMode, show ¬ (144 ≤ s.pic.ly) by omega, hc.2], hspr⟩
      · split
        · rename_i hc' hc
          have hd : (State.statRequest { s with pic := { s.pic with u := s.pic.u + 1, mode := .hblank } } 0).displayOn = true := by
            unfold State.displayOn; simp only [State.statRequest_pic]; exact hon
          unfold State.PicOk
          rw [hd]
          simp only [State.statRequest_pic]
          refine ⟨h1, h2, h3, ?_, by simp⟩
          intro _
          exact ⟨hly, by omega, by simp [scheduledMode, show ¬ (144 ≤ s.pic.ly) by omega, hc.2], hspr⟩
        · rename_i hc1 hc2
          have hd : ({ s with pic := { s.pic with u := s.pic.u + 1 } } : State).displayOn = true := hon
          unfold State.PicOk
          rw [hd]
          dsimp only
          refine ⟨h1, h2, h3, ?_, by simp⟩
          intro _
          refine ⟨hly, by omega, ?_, hspr⟩
          rw [hmode]
          unfold scheduledMode
          by_cases hv : s.pic.ly ≥ 144
          · simp [hv]
          · simp only [hv, if_false]
            by_cases hu20 : s.pic.u < 20
            · have : s.pic.u + 1 < 20 := by
                have : s.pic.u + 1 ≠ 20 := fun e => hc1 ⟨by omega, e⟩
                omega
              simp [hu20, this]
            · by_cases hu63 : s.pic.u < 63
              · have : s.pic.u + 1 < 63 := by
                  have : s.pic.u + 1 ≠ 63 := fun e => hc2 ⟨by omega, e⟩
                  omega
                simp [hu20, hu63, this, show ¬ (s.pic.u + 1 < 20) by omega]
              · simp [hu20, hu63, show ¬ (s.pic.u + 1 < 20) by omega, show ¬ (s.pic.u + 1 < 63) by omega]
  · rename_i hoff
    have hoff' : s.displayOn = false := by simpa using hoff
    unfold State.offTick
    split
    · have hd : ({ s with pic := { s.pic with offCount := 0, frameDone := true } } : State).displayOn = false := hoff'
      unfold State.PicOk
      rw [hd]
      exact ⟨by show (0 : Nat) < 17556; omega, h2, h3, fun hx => absurd hx (by decide), fun _ => h5 hoff'⟩
    · have hd : ({ s with pic := { s.pic with offCount := s.pic.offCount + 1 } } : State).displayOn = false := hoff'
      unfold State.PicOk
      rw [hd]
      exact ⟨by show s.pic.offCount + 1 < 17556; omega, h2, h3, fun hx => absurd hx (by decide), fun _ => h5 hoff'⟩

/-! #### The SoundTimer -/

/-- The ranges of 10_state.md R76, and that a powered-off unit is silent, for a sample period of `p`. -/
def Sound.ok (n : Sound) (p : Nat) : Prop :=
  n.ch1.len ≤ 64 ∧ n.ch2.len ≤ 64 ∧ n.ch3.len ≤ 256 ∧ n.ch4.len ≤ 64
    ∧ n.env1.timer ≤ 8 ∧ n.env2.timer ≤ 8 ∧ n.env4.timer ≤ 8 ∧ n.sweep.timer ≤ 8
    ∧ n.fsCount < 2048 ∧ n.fsStep < 8 ∧ n.sampleCount < p
    ∧ (n.power = false → n.ch1.active = false ∧ n.ch2.active = false ∧ n.ch3.active = false ∧ n.ch4.active = false)

/-- No channel is active with its DAC off. -/
def Sound.dacOk (n : Sound) : Prop :=
  (n.ch1.active = true → envDacOn n.nr12 = true) ∧ (n.ch2.active = true → envDacOn n.nr22 = true)
    ∧ (n.ch3.active = true → waveDacOn n.nr30 = true) ∧ (n.ch4.active = true → envDacOn n.nr42 = true)

theorem State.sndOk_iff (s : State) : s.SndOk ↔ s.snd.ok s.samplePeriod := Iff.rfl

theorem State.dacOk_iff (s : State) : s.DacOk ↔ s.snd.dacOk := Iff.rfl

theorem field3_lt (v : Byte) (k : Nat) : (v.extractLsb' k 3).toNat ≤ 8 := by have := (v.extractLsb' k 3).isLt; omega

theorem sweepReload_le (v : Byte) : sweepReload v ≤ 8 := by
  unfold sweepReload
  split
  · exact field3_lt v 4
  · omega

/-- A write to a sound register keeps the ranges (60_exceptions.md R662, R665, R668). -/
theorem Sound.ok.write {n : Sound} {p : Nat} (h : n.ok p) (r : SoundReg) (v : Byte) : (n.write r v).ok p := by
  unfold Sound.write
  split
  · rename_i hp
    obtain ⟨h1, h2, h3, h4, h5, h6, h7, h8, h9, h10, h11, h12⟩ := h
    have hs := sweepReload_le n.nr10
    have g1 := field3_lt n.nr12 0
    have g2 := field3_lt n.nr22 0
    have g4 := field3_lt n.nr42 0
    cases r <;> simp only [Sound.store, Sound.afterWrite]
    case nr14 =>
      split
      · refine ⟨?_, h2, h3, h4, g1, h6, h7, hs, h9, h10, h11, fun hx => absurd hx (by simp [Sound.trigger1, hp])⟩
        simp only [Sound.trigger1, Channel.trigger]; split <;> omega
      · exact ⟨h1, h2, h3, h4, h5, h6, h7, h8, h9, h10, h11, fun hx => absurd hx (by simp [hp])⟩
    case nr24 =>
      split
      · refine ⟨h1, ?_, h3, h4, h5, g2, h7, h8, h9, h10, h11, fun hx => absurd hx (by simp [Sound.trigger2, hp])⟩
        simp only [Sound.trigger2, Channel.trigger]; split <;> omega
      · exact ⟨h1, h2, h3, h4, h5, h6, h7, h8, h9, h10, h11, fun hx => absurd hx (by simp [hp])⟩
    case nr34 =>
      split
      · refine ⟨h1, h2, ?_, h4, h5, h6, h7, h8, h9, h10, h11, fun hx => absurd hx (by simp [Sound.trigger3, hp])⟩
        simp only [Sound.trigger3, Channel.trigger]; split <;> omega
      · exact ⟨h1, h2, h3, h4, h5, h6, h7, h8, h9, h10, h11, fun hx => absurd hx (by simp [hp])⟩
    case nr44 =>
      split
      · refine ⟨h1, h2, h3, ?_, h5, h6, g4, h8, h9, h10, h11, fun hx => absurd hx (by simp [Sound.trigger4, hp])⟩
        simp only [Sound.trigger4, Channel.trigger]; split <;> omega
      · exact ⟨h1, h2, h3, h4, h5, h6, h7, h8, h9, h10, h11, fun hx => absurd hx (by simp [hp])⟩
    case nr11 => exact ⟨Nat.sub_le _ _, h2, h3, h4, h5, h6, h7, h8, h9, h10, h11, fun hx => absurd hx (by simp [hp])⟩
    case nr21 => exact ⟨h1, Nat.sub_le _ _, h3, h4, h5, h6, h7, h8, h9, h10, h11, fun hx => absurd hx (by simp [hp])⟩
    case nr31 => exact ⟨h1, h2, Nat.sub_le _ _, h4, h5, h6, h7, h8, h9, h10, h11, fun hx => absurd hx (by simp [hp])⟩
    case nr41 => exact ⟨h1, h2, h3, Nat.sub_le _ _, h5, h6, h7, h8, h9, h10, h11, fun hx => absurd hx (by simp [hp])⟩
    all_goals exact ⟨h1, h2, h3, h4, h5, h6, h7, h8, h9, h10, h11, fun hx => absurd hx (by simp [hp])⟩
  · exact h

/-- A write to NR52 keeps the ranges (60_exceptions.md R667). -/
theorem Sound.ok.writeNr52 {n : Sound} {p : Nat} (h : n.ok p) (v : Byte) : (n.writeNr52 v).ok p := by
  obtain ⟨h1, h2, h3, h4, h5, h6, h7, h8, h9, h10, h11, h12⟩ := h
  unfold Sound.writeNr52
  split
  · exact ⟨by simp [Sound.powerOff, Channel.off], by simp [Sound.powerOff, Channel.off], by simp [Sound.powerOff, Channel.off],
      by simp [Sound.powerOff, Channel.off], by simp [Sound.powerOff, Envelope.off], by simp [Sound.powerOff, Envelope.off],
      by simp [Sound.powerOff, Envelope.off], by simp [Sound.powerOff, Sweep.off], h9, h10, h11, fun _ => ⟨rfl, rfl, rfl, rfl⟩⟩
  · exact ⟨h1, h2, h3, h4, h5, h6, h7, h8, by show (0 : Nat) < 2048; omega, by show (0 : Nat) < 8; omega, h11,
      fun hx => absurd hx (by simp)⟩
  · exact ⟨h1, h2, h3, h4, h5, h6, h7, h8, h9, h10, h11, h12⟩

theorem Channel.lengthClock_len (c : Channel) (v : Byte) : (c.lengthClock v).len ≤ c.len := by
  unfold Channel.lengthClock; split <;> simp

/-- Clocking a length counter never makes a channel active (60_exceptions.md R661). -/
theorem Channel.lengthClock_active (c : Channel) (v : Byte) (h : (c.lengthClock v).active = true) : c.active = true := by
  unfold Channel.lengthClock at h
  split at h
  · simp only [Bool.and_eq_true] at h; exact h.1
  · exact h

theorem Envelope.clock_timer {e : Envelope} (h : e.timer ≤ 8) (v : Byte) (a : Bool) {below : Nat} (hb : below ≤ 8) :
    (e.clock v a below).timer ≤ 8 := by
  unfold Envelope.clock
  dsimp only
  split
  · split
    · split
      · exact field3_lt v 0
      · exact hb
    · split
      · exact field3_lt v 0
      · show e.timer - 1 ≤ 8; omega
  · exact h

/-- The sweep step changes channel 1's activity, shadow, NR13 and NR14 and nothing else (60_exceptions.md R664). -/
theorem Sound.sweepStep_eq (n : Sound) : ∃ a x y z, n.sweepStep =
    { n with ch1 := { n.ch1 with active := a }, sweep := { n.sweep with shadow := x }, nr13 := y, nr14 := z }
      ∧ (a = true → n.ch1.active = true) := by
  unfold Sound.sweepStep
  dsimp only
  split
  · exact ⟨false, n.sweep.shadow, n.nr13, n.nr14, rfl, fun h => absurd h (by decide)⟩
  · split
    · refine ⟨_, _, _, _, rfl, ?_⟩
      intro h; simp only [Bool.and_eq_true] at h; exact h.1
    · exact ⟨n.ch1.active, n.sweep.shadow, n.nr13, n.nr14, rfl, fun h => h⟩

/-- A sweep clock changes channel 1's activity, the sweep, NR13 and NR14 and nothing else (60_exceptions.md R664). -/
theorem Sound.sweepClock_eq (n : Sound) : ∃ a x y z, n.sweepClock =
    { n with ch1 := { n.ch1 with active := a }, sweep := x, nr13 := y, nr14 := z }
      ∧ (a = true → n.ch1.active = true) ∧ (n.sweep.timer ≤ 8 → x.timer ≤ 8) := by
  unfold Sound.sweepClock
  split
  · exact ⟨n.ch1.active, n.sweep, n.nr13, n.nr14, rfl, fun h => h, fun h => h⟩
  · split
    · dsimp only
      split
      · obtain ⟨a, x, y, z, e, ha⟩ := Sound.sweepStep_eq { n with sweep := { n.sweep with timer := sweepReload n.nr10 } }
        rw [e]
        exact ⟨a, _, y, z, rfl, ha, fun _ => sweepReload_le n.nr10⟩
      · exact ⟨n.ch1.active, _, n.nr13, n.nr14, rfl, fun h => h, fun _ => sweepReload_le n.nr10⟩
    · exact ⟨n.ch1.active, _, n.nr13, n.nr14, rfl, fun h => h, fun h => by show n.sweep.timer - 1 ≤ 8; omega⟩

theorem Sound.ok.lengthClock {n : Sound} {p : Nat} (h : n.ok p) : n.lengthClock.ok p := by
  obtain ⟨h1, h2, h3, h4, h5, h6, h7, h8, h9, h10, h11, h12⟩ := h
  have l1 := n.ch1.lengthClock_len n.nr14
  have l2 := n.ch2.lengthClock_len n.nr24
  have l3 := n.ch3.lengthClock_len n.nr34
  have l4 := n.ch4.lengthClock_len n.nr44
  have hoff : ∀ (c : Channel) (v : Byte), c.active = false → (c.lengthClock v).active = false := by
    intro c v hc
    cases hx : (c.lengthClock v).active
    · rfl
    · exact absurd (c.lengthClock_active v hx) (by simp [hc])
  refine ⟨l1.trans h1, l2.trans h2, l3.trans h3, l4.trans h4, h5, h6, h7, h8, h9, h10, h11, fun hx => ?_⟩
  obtain ⟨a1, a2, a3, a4⟩ := h12 hx
  exact ⟨hoff _ _ a1, hoff _ _ a2, hoff _ _ a3, hoff _ _ a4⟩

theorem Sound.ok.sweepClock {n : Sound} {p : Nat} (h : n.ok p) : n.sweepClock.ok p := by
  obtain ⟨h1, h2, h3, h4, h5, h6, h7, h8, h9, h10, h11, h12⟩ := h
  obtain ⟨a, x, y, z, e, ha, hx⟩ := n.sweepClock_eq
  rw [e]
  refine ⟨h1, h2, h3, h4, h5, h6, h7, hx h8, h9, h10, h11, fun hp => ?_⟩
  obtain ⟨a1, a2, a3, a4⟩ := h12 hp
  refine ⟨?_, a2, a3, a4⟩
  cases a
  · rfl
  · exact absurd (ha rfl) (by simp [a1])

theorem Sound.ok.envClock {n : Sound} {p : Nat} (h : n.ok p) (now : Nat) : (n.envClock now).ok p := by
  obtain ⟨h1, h2, h3, h4, h5, h6, h7, h8, h9, h10, h11, h12⟩ := h
  have hb := fun k => Nat.le_of_lt_succ (Config.envTimerBelowZero now k).isLt
  exact ⟨h1, h2, h3, h4, Envelope.clock_timer h5 _ _ (hb 1), Envelope.clock_timer h6 _ _ (hb 2),
    Envelope.clock_timer h7 _ _ (hb 4), h8, h9, h10, h11, h12⟩

theorem Sound.dacOk.lengthClock {n : Sound} (h : n.dacOk) : n.lengthClock.dacOk :=
  ⟨fun hx => h.1 (n.ch1.lengthClock_active _ hx), fun hx => h.2.1 (n.ch2.lengthClock_active _ hx),
    fun hx => h.2.2.1 (n.ch3.lengthClock_active _ hx), fun hx => h.2.2.2 (n.ch4.lengthClock_active _ hx)⟩

theorem Sound.dacOk.sweepClock {n : Sound} (h : n.dacOk) : n.sweepClock.dacOk := by
  obtain ⟨a, x, y, z, e, ha, _⟩ := n.sweepClock_eq
  rw [e]
  exact ⟨fun hx => h.1 (ha hx), h.2⟩

/-- A frame-sequencer step keeps the ranges and the DAC rule (60_exceptions.md R660). -/
theorem Sound.sequencerStep_keeps {n : Sound} {p : Nat} (now : Nat) (h : n.ok p ∧ n.dacOk) :
    (n.sequencerStep now).ok p ∧ (n.sequencerStep now).dacOk := by
  unfold Sound.sequencerStep
  dsimp only
  have k1 : (if n.fsStep % 2 = 0 then n.lengthClock else n).ok p ∧ (if n.fsStep % 2 = 0 then n.lengthClock else n).dacOk := by
    split <;> [exact ⟨h.1.lengthClock, h.2.lengthClock⟩; exact h]
  generalize (if n.fsStep % 2 = 0 then n.lengthClock else n) = n1 at k1
  have k2 : (if n.fsStep = 2 ∨ n.fsStep = 6 then n1.sweepClock else n1).ok p
      ∧ (if n.fsStep = 2 ∨ n.fsStep = 6 then n1.sweepClock else n1).dacOk := by
    split <;> [exact ⟨k1.1.sweepClock, k1.2.sweepClock⟩; exact k1]
  generalize (if n.fsStep = 2 ∨ n.fsStep = 6 then n1.sweepClock else n1) = n2 at k2
  have k3 : (if n.fsStep = 7 then n2.envClock now else n2).ok p ∧ (if n.fsStep = 7 then n2.envClock now else n2).dacOk := by
    split <;> [exact ⟨k2.1.envClock now, k2.2⟩; exact k2]
  generalize (if n.fsStep = 7 then n2.envClock now else n2) = n3 at k3
  obtain ⟨⟨h1, h2, h3, h4, h5, h6, h7, h8, h9, h10, h11, h12⟩, hd⟩ := k3
  exact ⟨⟨h1, h2, h3, h4, h5, h6, h7, h8, h9, Nat.mod_lt _ (by omega), h11, h12⟩, hd⟩

/-- An M-cycle of the SoundTimer keeps the ranges and the DAC rule. -/
theorem State.apuTick_keeps {s : State} (h : s.SndOk ∧ s.DacOk) : s.apuTick.SndOk ∧ s.apuTick.DacOk := by
  have hpos : 0 < s.samplePeriod := by
    have := h.1.2.2.2.2.2.2.2.2.2.2.1; omega
  have k : s.sampleTick.snd.ok s.samplePeriod ∧ s.sampleTick.snd.dacOk := by
    obtain ⟨⟨h1, h2, h3, h4, h5, h6, h7, h8, h9, h10, h11, h12⟩, hd⟩ := h
    exact ⟨⟨h1, h2, h3, h4, h5, h6, h7, h8, h9, h10, Nat.mod_lt _ hpos, h12⟩, hd⟩
  rw [State.sndOk_iff, State.dacOk_iff, State.apuTick_samplePeriod]
  unfold State.apuTick
  dsimp only
  split
  · unfold Sound.sequencerTick
    split
    · refine Sound.sequencerStep_keeps _ ?_
      obtain ⟨⟨h1, h2, h3, h4, h5, h6, h7, h8, h9, h10, h11, h12⟩, hd⟩ := k
      exact ⟨⟨h1, h2, h3, h4, h5, h6, h7, h8, by show (0 : Nat) < 2048; omega, h10, h11, h12⟩, hd⟩
    · rename_i hne
      obtain ⟨⟨h1, h2, h3, h4, h5, h6, h7, h8, h9, h10, h11, h12⟩, hd⟩ := k
      exact ⟨⟨h1, h2, h3, h4, h5, h6, h7, h8, by show s.sampleTick.snd.fsCount + 1 < 2048; omega, h10, h11, h12⟩, hd⟩
  · exact k

/-- A write to a sound register keeps the DAC rule (60_exceptions.md R665, R666). -/
theorem Sound.dacOk.write {n : Sound} (h : n.dacOk) (r : SoundReg) (v : Byte) : (n.write r v).dacOk := by
  obtain ⟨h1, h2, h3, h4⟩ := h
  unfold Sound.write
  split
  · cases r <;> simp only [Sound.store, Sound.afterWrite]
    case nr12 => exact ⟨fun hx => by simp only [Channel.dacCheck, Bool.and_eq_true] at hx; exact hx.2, h2, h3, h4⟩
    case nr22 => exact ⟨h1, fun hx => by simp only [Channel.dacCheck, Bool.and_eq_true] at hx; exact hx.2, h3, h4⟩
    case nr30 => exact ⟨h1, h2, fun hx => by simp only [Channel.dacCheck, Bool.and_eq_true] at hx; exact hx.2, h4⟩
    case nr42 => exact ⟨h1, h2, h3, fun hx => by simp only [Channel.dacCheck, Bool.and_eq_true] at hx; exact hx.2⟩
    case nr14 =>
      split
      · refine ⟨fun hx => ?_, h2, h3, h4⟩
        simp only [Sound.trigger1, Bool.and_eq_true, Channel.trigger] at hx
        exact hx.1
      · exact ⟨h1, h2, h3, h4⟩
    case nr24 => split <;> [exact ⟨h1, fun hx => hx, h3, h4⟩; exact ⟨h1, h2, h3, h4⟩]
    case nr34 => split <;> [exact ⟨h1, h2, fun hx => hx, h4⟩; exact ⟨h1, h2, h3, h4⟩]
    case nr44 => split <;> [exact ⟨h1, h2, h3, fun hx => hx⟩; exact ⟨h1, h2, h3, h4⟩]
    all_goals exact ⟨h1, h2, h3, h4⟩
  · exact ⟨h1, h2, h3, h4⟩

theorem Sound.dacOk.writeNr52 {n : Sound} (h : n.dacOk) (v : Byte) : (n.writeNr52 v).dacOk := by
  unfold Sound.writeNr52
  split
  · exact ⟨fun hx => Bool.noConfusion hx, fun hx => Bool.noConfusion hx, fun hx => Bool.noConfusion hx,
      fun hx => Bool.noConfusion hx⟩
  · exact h
  · exact h

/-- Every I/O write keeps the SoundTimer in range and its DAC rule. -/
theorem State.ioWrite_snd {s : State} (h : s.SndOk ∧ s.DacOk) (off : Nat) (v : Byte) :
    (s.ioWrite off v).SndOk ∧ (s.ioWrite off v).DacOk := by
  have hk : ∀ t : State, t.snd = s.snd → t.samplePeriod = s.samplePeriod → t.SndOk ∧ t.DacOk := by
    intro t h1 h2
    rw [State.sndOk_iff, State.dacOk_iff, h1, h2]; exact h
  unfold State.ioWrite
  split
  · rename_i r hr
    refine State.writeReg_cases (P := fun t => t.SndOk ∧ t.DacOk) s r v ?_ ?_ ?_ ?_ ?_ ?_ ?_ ?_ ?_ ?_ ?_ ?_ ?_
    · intro _; exact hk _ (by simp) (by simp)
    · intro _; exact hk _ (by simp) (by simp)
    · intro _; exact hk _ (by simp) (by simp)
    · intro _; exact hk _ (by simp) (by simp)
    · exact h
    · intros; exact hk _ rfl rfl
    · intros; exact hk _ rfl rfl
    · exact hk _ rfl rfl
    · intro q
      exact ⟨Sound.ok.write h.1 q v, Sound.dacOk.write h.2 q v⟩
    · exact ⟨Sound.ok.writeNr52 h.1 v, Sound.dacOk.writeNr52 h.2 v⟩
    · intros; exact hk _ rfl rfl
    · intros; exact hk _ rfl rfl
    · exact hk _ rfl rfl
  · exact h

/-- Every bus write keeps the SoundTimer in range and its DAC rule. -/
theorem State.busWrite_snd {s : State} (h : s.SndOk ∧ s.DacOk) (a : Word) (v : Byte) :
    (s.busWrite a v).SndOk ∧ (s.busWrite a v).DacOk := by
  refine State.busWrite_cases (P := fun t => t.SndOk ∧ t.DacOk) s a v ?_ ?_ ?_ ?_ ?_ ?_ ?_ ?_ ?_
  · intro _; exact h
  · intro _ _ _; exact h
  · intro _; exact h
  · intro _ _
    rw [State.sndOk_iff, State.dacOk_iff, State.extRamWrite_snd, State.extRamWrite_samplePeriod]; exact h
  · intro _ _ _ _ _; exact h
  · intro _ _ _; exact h
  · intro _ _; exact State.ioWrite_snd h _ v
  · intro _ _; exact h
  · intro _; exact h

/-! #### The serial unit -/

theorem State.SerOk.of_ser {s t : State} (h : s.SerOk) (e : t.ser = s.ser) : t.SerOk := by
  unfold State.SerOk at *; rw [e]; exact h

theorem State.SerOk.writeSc {s : State} (h : s.SerOk) (v : Byte) : (s.writeSc v).SerOk := by
  unfold State.SerOk State.writeSc at *
  dsimp only
  refine ⟨?_, ?_⟩
  · split <;> [split; skip] <;> omega
  · intro hx
    split at hx
    · assumption
    · exact absurd rfl hx

theorem State.SerOk.ioWrite {s : State} (h : s.SerOk) (off : Nat) (v : Byte) : (s.ioWrite off v).SerOk := by
  unfold State.ioWrite
  split
  · rename_i r hr
    refine State.writeReg_cases (P := fun t => t.SerOk) s r v ?_ ?_ ?_ ?_ ?_ ?_ ?_ ?_ ?_ ?_ ?_ ?_ ?_
    · intro _; exact h.of_ser (by simp)
    · intro _; exact h.writeSc v
    · intro _; exact h.of_ser (by simp)
    · intro _; exact h.of_ser (by simp)
    · exact h
    · intro x h1 h2; unfold State.SerOk at *; simp only [h1, h2]; exact h
    · intros; exact h
    · exact h
    · intros; exact h
    · exact h
    · intros; exact h
    · intros; exact h
    · exact h
  · exact h

theorem State.SerOk.busWrite {s : State} (h : s.SerOk) (a : Word) (v : Byte) : (s.busWrite a v).SerOk := by
  refine State.busWrite_cases (P := fun t => t.SerOk) s a v ?_ ?_ ?_ ?_ ?_ ?_ ?_ ?_ ?_
  · intro _; exact h
  · intro _ _ _; exact h
  · intro _; exact h
  · intro _ _; exact h.of_ser (by simp)
  · intro _ _ _ _ _; exact h
  · intro _ _ _; exact h
  · intro _ _; exact h.ioWrite _ v
  · intro _ _; exact h
  · intro _; exact h

theorem State.SerOk.serialTick {s : State} (h : s.SerOk) : s.serialTick.SerOk := by
  unfold State.serialTick
  split
  · exact h
  · split
    · exact ⟨by show (0 : Nat) ≤ 1024; omega, fun hx => absurd rfl hx⟩
    · refine ⟨by show s.ser.count - 1 ≤ 1024; have := h.1; omega, fun _ => h.2 (by assumption)⟩

/-! #### One M-cycle -/

/-- The units' ranges together. -/
def State.UnitsOk (s : State) : Prop := s.PicOk ∧ (s.SndOk ∧ s.DacOk) ∧ s.SerOk

theorem State.UnitsOk.busWrite {s : State} (h : s.UnitsOk) (a : Word) (v : Byte) : (s.busWrite a v).UnitsOk :=
  ⟨h.1.busWrite a v, State.busWrite_snd h.2.1 a v, h.2.2.busWrite a v⟩

/-- One M-cycle of every device keeps every unit in range (60_exceptions.md R505). -/
theorem State.UnitsOk.tick {s : State} (h : s.UnitsOk) : s.tick.UnitsOk := by
  obtain ⟨hp, hs, hr⟩ := h
  unfold State.tick
  have r1 : s.timerTick.SerOk := hr.of_ser (by simp)
  have r2 : s.timerTick.serialTick.SerOk := r1.serialTick
  have p2 : s.timerTick.serialTick.PicOk := hp.of_pic (by simp)
  have s3 : s.timerTick.serialTick.ppuTick.SndOk ∧ s.timerTick.serialTick.ppuTick.DacOk := by
    rw [State.sndOk_iff, State.dacOk_iff]
    simpa [State.sndOk_iff, State.dacOk_iff] using hs
  exact ⟨p2.ppuTick.of_pic (by simp), State.apuTick_keeps s3, r2.of_ser (by simp)⟩

theorem State.UnitsOk.ticks {s : State} (h : s.UnitsOk) (n : Nat) : (State.ticks n s).UnitsOk :=
  State.ticks_induct (P := State.UnitsOk) (fun _ hx => hx.tick) n s h

end Sys2Proof.Machine
end

