-- ==== Sys2Proof/Laws/Step.lean ====
section
/-! SUPPORT. Everything an instruction, a dispatch and a step can do, said once: register-file updates, CPU control updates,
bus writes, the divider reset and the acknowledge, then the device advance. -/

namespace Sys2Proof.Machine

/-- `t` comes from `s` by a sequence of the five things a step does before the devices advance. -/
inductive Touches (s : State) : State → Prop where
  | refl : Touches s s
  | regs {t : State} (r : Regs) (h : Touches s t) : Touches s { t with regs := r }
  /-- A CPU control update never unlocks, and repeats a byte only on a machine with the HALT bug. -/
  | ctl {t : State} (c : Control) (h : Touches s t) (hl : t.ctl.locked = true → c.locked = true)
      (hb : c.haltbugPending = true → t.ctl.haltbugPending = true ∨ t.haltBug = true) : Touches s { t with ctl := c }
  | write {t : State} (a : Word) (v : Byte) (h : Touches s t) : Touches s (t.busWrite a v)
  | divider {t : State} (h : Touches s t) : Touches s t.resetDivider
  | ack {t : State} (k : Nat) (h : Touches s t) : Touches s (t.acknowledge k)

/-- A property that the five things keep is kept. -/
theorem Touches.keeps {P : State → Prop} {s t : State} (h : Touches s t) (hs : P s)
    (regs : ∀ t r, P t → P { t with regs := r })
    (ctl : ∀ (t : State) (c : Control), P t → (t.ctl.locked = true → c.locked = true) →
      (c.haltbugPending = true → t.ctl.haltbugPending = true ∨ t.haltBug = true) → P { t with ctl := c })
    (write : ∀ (t : State) a v, P t → P (t.busWrite a v)) (divider : ∀ t : State, P t → P t.resetDivider)
    (ack : ∀ (t : State) k, P t → P (t.acknowledge k)) : P t := by
  induction h with
  | refl => exact hs
  | regs r _ ih => exact regs _ r ih
  | ctl c _ hl hb ih => exact ctl _ c ih hl hb
  | write a v _ ih => exact write _ a v ih
  | divider _ ih => exact divider _ ih
  | ack k _ ih => exact ack _ k ih

variable {s t : State}

theorem Touches.setReg (h : Touches s t) (r : Reg8) (v : Byte) : Touches s (t.setReg r v) := by
  cases r <;> exact .regs _ h

theorem Touches.setFlags (h : Touches s t) (z n c d : Bool) : Touches s (t.setFlags z n c d) := .regs _ h

theorem Touches.setPair (h : Touches s t) (r : Reg16) (v : Word) : Touches s (t.setPair r v) := by
  cases r <;> exact .regs _ h

theorem Touches.setStackReg (h : Touches s t) (r : StackReg) (v : Word) : Touches s (t.setStackReg r v) := by
  cases r <;> exact .regs _ h

theorem Touches.setAFlags (h : Touches s t) (o : AluOut) : Touches s (t.setAFlags o) := .regs _ (.regs _ h)

theorem Touches.keepFlags (h : Touches s t) (o : AluOut) : Touches s (t.keepFlags o) := .regs _ h

theorem Touches.aluA (h : Touches s t) (op : AluOp) (v : Byte) : Touches s (t.aluA op v) := by
  cases op <;> first | exact h.setAFlags _ | exact h.keepFlags _

theorem Touches.push16 (h : Touches s t) (v : Word) : Touches s (t.push16 v) := .write _ _ (.regs _ (.write _ _ (.regs _ h)))

theorem Touches.callTo (h : Touches s t) (v : Word) : Touches s (t.callTo v) := .regs _ (h.push16 _)

theorem Touches.returnTo (h : Touches s t) : Touches s t.returnTo := .regs _ (.regs _ h)

theorem Touches.setIme (h : Touches s t) (b : Bool) : Touches s (t.setIme b) := .ctl _ h (fun x => x) (fun x => Or.inl x)

theorem Touches.onlyIf (h : Touches s t) (b : Bool) {u : State} (hu : Touches s u) : Touches s (t.onlyIf b u) := by
  cases b <;> assumption

theorem Touches.lock (h : Touches s t) : Touches s t.lock := .ctl _ h (fun _ => rfl) (fun x => Or.inl x)

theorem Touches.halt (h : Touches s t) : Touches s t.halt := by
  unfold State.halt
  split
  · rename_i hc
    simp only [Bool.and_eq_true] at hc
    exact .ctl _ h (fun x => x) (fun _ => Or.inr hc.1.1)
  · exact .ctl _ h (fun x => x) (fun x => Or.inl x)

theorem Touches.runCb (h : Touches s t) (v : Byte) : Touches s (t.runCb v) := by
  unfold State.runCb
  dsimp only
  split
  · exact (h.setReg _ _).keepFlags _
  · exact (Touches.write _ _ h).keepFlags _
  · exact h.setFlags _ _ _ _
  · exact h.setFlags _ _ _ _
  · exact h.setReg _ _
  · exact .write _ _ h
  · exact h.setReg _ _
  · exact .write _ _ h

theorem Touches.incReg (h : Touches s t) (r : Reg8) : Touches s (t.incReg r) := (h.setReg _ _).keepFlags _

theorem Touches.decReg (h : Touches s t) (r : Reg8) : Touches s (t.decReg r) := (h.setReg _ _).keepFlags _

theorem Touches.incAtHl (h : Touches s t) : Touches s t.incAtHl := (Touches.write _ _ h).keepFlags _

theorem Touches.decAtHl (h : Touches s t) : Touches s t.decAtHl := (Touches.write _ _ h).keepFlags _

theorem Touches.rotA (h : Touches s t) (k : RotOp) : Touches s (t.rotA k) := (h.setReg _ _).setFlags _ _ _ _

theorem Touches.rotReg (h : Touches s t) (k : RotOp) (r : Reg8) : Touches s (t.rotReg k r) := (h.setReg _ _).keepFlags _

theorem Touches.rotAtHl (h : Touches s t) (k : RotOp) : Touches s (t.rotAtHl k) := (Touches.write _ _ h).keepFlags _

theorem Touches.testBit (h : Touches s t) (b : Fin 8) (v : Byte) : Touches s (t.testBit b v) := h.setFlags _ _ _ _

theorem Touches.loadHlSp (h : Touches s t) (e : Byte) : Touches s (t.loadHlSp e) := .regs _ (.regs _ h)

theorem Touches.addToHl (h : Touches s t) (v : Word) : Touches s (t.addToHl v) := .regs _ (.regs _ h)

theorem Touches.addToSp (h : Touches s t) (e : Byte) : Touches s (t.addToSp e) := .regs _ (.regs _ h)

theorem Touches.popTo (h : Touches s t) (r : StackReg) : Touches s (t.popTo r) := (Touches.regs _ h).setStackReg _ _

theorem Touches.busWrite16 (h : Touches s t) (a v : Word) : Touches s (t.busWrite16 a v) := .write _ _ (.write _ _ h)

theorem Touches.setHl (h : Touches s t) (v : Word) : Touches s (t.setHl v) := .regs _ h

theorem Touches.setSp (h : Touches s t) (v : Word) : Touches s (t.setSp v) := .regs _ h

theorem Touches.setPc (h : Touches s t) (v : Word) : Touches s (t.setPc v) := .regs _ h

theorem Touches.jumpRel (h : Touches s t) (e : Byte) : Touches s (t.jumpRel e) := .regs _ h

theorem Touches.returnFromInterrupt (h : Touches s t) : Touches s t.returnFromInterrupt := h.returnTo.setIme true

theorem Touches.armIme (h : Touches s t) : Touches s t.armIme := .ctl _ h (fun x => x) (fun x => Or.inl x)

theorem Touches.stop (h : Touches s t) : Touches s t.stop := .divider (.ctl _ h (fun x => x) (fun x => Or.inl x))

/-- EVERY INSTRUCTION COMPLETES, and does no more than the five things (60_exceptions.md R515). -/
theorem exec_touches (i : Instr) (s : State) : ∃ t, exec i s = .next t ∧ Touches s t := by
  have h : Touches s s := .refl
  cases i <;> refine ⟨_, rfl, ?_⟩ <;> with_reducible
    first
      | exact h
      | exact h.setReg _ _
      | exact h.aluA _ _
      | exact .write _ _ h
      | exact h.setPair _ _
      | exact h.incReg _
      | exact h.decReg _
      | exact h.rotReg _ _
      | exact h.rotAtHl _
      | exact h.testBit _ _
      | exact h.rotA _
      | exact h.incAtHl
      | exact h.decAtHl
      | exact h.addToHl _
      | exact h.loadHlSp _
      | exact h.addToSp _
      | exact h.popTo _
      | exact h.push16 _
      | exact h.busWrite16 _ _
      | exact h.setSp _
      | exact h.setPc _
      | exact h.jumpRel _
      | exact h.callTo _
      | exact h.returnTo
      | exact h.returnFromInterrupt
      | exact h.onlyIf _ (h.setPc _)
      | exact h.onlyIf _ (h.jumpRel _)
      | exact h.onlyIf _ h.returnTo
      | exact h.onlyIf _ (h.callTo _)
      | exact h.setFlags _ _ _ _
      | exact h.setAFlags _
      | exact (h.setReg _ _).setFlags _ _ _ _
      | exact (h.setReg _ _).setHl _
      | exact (Touches.write _ _ h).setHl _
      | exact h.setIme _
      | exact h.lock
      | exact h.halt
      | exact h.stop
      | exact h.armIme
      | exact h.runCb _

theorem Touches.fetch8 (h : Touches s t) : Touches s t.fetch8.2 := by
  unfold State.fetch8
  split
  · exact .ctl _ h (fun x => x) (fun x => Bool.noConfusion x)
  · exact .regs _ h

theorem Touches.fetchInstr (h : Touches s t) : Touches s t.fetchInstr.2 := by
  unfold State.fetchInstr
  dsimp only
  split
  · exact h.fetch8
  · exact h.fetch8.fetch8
  · exact h.fetch8.fetch8.fetch8

theorem Touches.wake (h : Touches s t) : Touches s t.wake := by
  unfold State.wake
  split
  · exact h
  · exact .ctl _ h (fun x => x) (fun x => Or.inl x)

theorem Touches.dispatch (h : Touches s t) (p : BitVec 5) : Touches s (t.dispatch p) :=
  .regs _ (Touches.push16 (Touches.setIme (.ack _ h) false) _)

theorem Touches.retireEi (h : Touches s t) (b : Bool) : Touches s (t.retireEi b) := by
  unfold State.retireEi
  split
  · exact h.setIme _
  · exact h

theorem Touches.trans {u : State} (h : Touches s t) (h2 : Touches t u) : Touches s u :=
  h2.keeps (P := Touches s) h (fun _ r h => .regs r h) (fun _ c h hl hb => .ctl c h hl hb) (fun _ a v h => .write a v h)
    (fun _ h => .divider h) (fun _ k h => .ack k h)

/-- Every duration is 1 to 6 M-cycles (30_encoding.md R166, R170). -/
theorem duration_bounds (i : Instr) (s : State) : 1 ≤ duration i s ∧ duration i s ≤ 6 := by
  cases i <;> simp only [duration] <;> first | omega | (unfold cbDuration; split <;> [split; skip] <;> omega) | (split <;> omega)

/-- EVERYTHING A STEP CAN DO (60_exceptions.md R500): the CPU part is a sequence of the five things, and then the devices
advance by 1 to 6 M-cycles. No step faults or is refused. -/
theorem step_cases (s : State) : ∃ u n, step s = .next (u.advance n) ∧ Touches s u ∧ 1 ≤ n ∧ n ≤ 6 := by
  unfold step stepBody
  split
  · exact ⟨s, 1, rfl, .refl, by omega, by omega⟩
  · dsimp only
    have hw : Touches s s.wake := Touches.refl.wake
    split
    · exact ⟨_, 5, rfl, hw.dispatch _, by omega, by omega⟩
    · split
      · exact ⟨_, 1, rfl, hw, by omega, by omega⟩
      · obtain ⟨t, ht, hc⟩ := exec_touches s.wake.fetchInstr.1 s.wake.fetchInstr.2
        have hd := duration_bounds s.wake.fetchInstr.1 s.wake.fetchInstr.2
        unfold runDecoded
        rw [ht]
        exact ⟨_, _, rfl, (hw.fetchInstr.trans hc).retireEi _, hd.1, hd.2⟩

/-- A property that the five things keep and the device advance keeps, every step keeps. -/
theorem step_keeps {P : State → Prop} {s t : State} (h : step s = .next t) (hs : P s)
    (regs : ∀ t r, P t → P { t with regs := r })
    (ctl : ∀ (t : State) (c : Control), P t → (t.ctl.locked = true → c.locked = true) →
      (c.haltbugPending = true → t.ctl.haltbugPending = true ∨ t.haltBug = true) → P { t with ctl := c })
    (write : ∀ (t : State) a v, P t → P (t.busWrite a v)) (divider : ∀ t : State, P t → P t.resetDivider)
    (ack : ∀ (t : State) k, P t → P (t.acknowledge k)) (advance : ∀ (t : State) n, P t → P (t.advance n)) : P t := by
  obtain ⟨u, n, hu, ht, _⟩ := step_cases s
  rw [hu] at h
  obtain rfl : u.advance n = t := by injection h
  exact advance _ n (ht.keeps hs regs ctl write divider ack)

end Sys2Proof.Machine
end

