-- ==== Sys2Proof/Tests/Slice0.lean ====
section
/-! SUPPORT. Tests of the model against the spec: the well-formedness smoke test, a word of every constructor decoded, one
step of the vectors of 95_test_vectors.md, and a witness for the hypotheses of every statement of Obligations.lean. -/

open Sys2Proof Sys2Proof.Machine

/-! ### Well-formed terms -/

/-- The term for the prefix row is no instruction of its own (30_encoding.md R163). -/
theorem test_prefix_cb_is_ill_formed : (Instr.prefix_cb 0x37).wellFormed = false := by decide

/-- The instruction that its word is, is well formed. -/
theorem test_swap_a_is_well_formed : (Instr.swap_r .a).wellFormed = true ∧ Instr.nop.wellFormed = true := by decide

/-! ### Decoding, by the grid of 30_encoding.md R165: each row of sixteen opcodes, each followed by the bytes 0xBA and 0x5C -/

/-- What the decoder reads from one opcode and the two bytes 0xBA and 0x5C, with the bytes left over. -/
def read3 (op : Nat) : Except DecodeError (Instr × Nat) :=
  match decode [BitVec.ofNat 8 op, 0xBA, 0x5C] with
  | .ok (i, rest) => .ok (i, rest.length)
  | .error e => .error e

theorem test_decode_row_0 :
    ∀ e ∈ ([
      (0x00, .nop, 2), (0x01, .ld_bc_nn 0x5CBA, 0), (0x02, .ld_atBC_a, 2), (0x03, .inc_bc, 2),
      (0x04, .inc_b, 2), (0x05, .dec_b, 2), (0x06, .ld_b_n 0xBA, 1), (0x07, .rlca, 2),
      (0x08, .ld_atNN_sp 0x5CBA, 0), (0x09, .add_hl_bc, 2), (0x0A, .ld_a_atBC, 2), (0x0B, .dec_bc, 2),
      (0x0C, .inc_c, 2), (0x0D, .dec_c, 2), (0x0E, .ld_c_n 0xBA, 1), (0x0F, .rrca, 2)] : List (Nat × Instr × Nat)),
      read3 e.1 = .ok e.2 := by decide

theorem test_decode_row_1 :
    ∀ e ∈ ([
      (0x10, .stop 0xBA, 1), (0x11, .ld_de_nn 0x5CBA, 0), (0x12, .ld_atDE_a, 2), (0x13, .inc_de, 2),
      (0x14, .inc_d, 2), (0x15, .dec_d, 2), (0x16, .ld_d_n 0xBA, 1), (0x17, .rla, 2),
      (0x18, .jr_e 0xBA, 1), (0x19, .add_hl_de, 2), (0x1A, .ld_a_atDE, 2), (0x1B, .dec_de, 2),
      (0x1C, .inc_e, 2), (0x1D, .dec_e, 2), (0x1E, .ld_e_n 0xBA, 1), (0x1F, .rra, 2)] : List (Nat × Instr × Nat)),
      read3 e.1 = .ok e.2 := by decide

theorem test_decode_row_2 :
    ∀ e ∈ ([
      (0x20, .jr_nz_e 0xBA, 1), (0x21, .ld_hl_nn 0x5CBA, 0), (0x22, .ld_atHLinc_a, 2), (0x23, .inc_hl, 2),
      (0x24, .inc_h, 2), (0x25, .dec_h, 2), (0x26, .ld_h_n 0xBA, 1), (0x27, .daa, 2),
      (0x28, .jr_z_e 0xBA, 1), (0x29, .add_hl_hl, 2), (0x2A, .ld_a_atHLinc, 2), (0x2B, .dec_hl, 2),
      (0x2C, .inc_l, 2), (0x2D, .dec_l, 2), (0x2E, .ld_l_n 0xBA, 1), (0x2F, .cpl, 2)] : List (Nat × Instr × Nat)),
      read3 e.1 = .ok e.2 := by decide

theorem test_decode_row_3 :
    ∀ e ∈ ([
      (0x30, .jr_nc_e 0xBA, 1), (0x31, .ld_sp_nn 0x5CBA, 0), (0x32, .ld_atHLdec_a, 2), (0x33, .inc_sp, 2),
      (0x34, .inc_atHL, 2), (0x35, .dec_atHL, 2), (0x36, .ld_atHL_n 0xBA, 1), (0x37, .scf, 2),
      (0x38, .jr_c_e 0xBA, 1), (0x39, .add_hl_sp, 2), (0x3A, .ld_a_atHLdec, 2), (0x3B, .dec_sp, 2),
      (0x3C, .inc_a, 2), (0x3D, .dec_a, 2), (0x3E, .ld_a_n 0xBA, 1), (0x3F, .ccf, 2)] : List (Nat × Instr × Nat)),
      read3 e.1 = .ok e.2 := by decide

theorem test_decode_row_4 :
    ∀ e ∈ ([
      (0x40, .ld_b_b, 2), (0x41, .ld_b_c, 2), (0x42, .ld_b_d, 2), (0x43, .ld_b_e, 2),
      (0x44, .ld_b_h, 2), (0x45, .ld_b_l, 2), (0x46, .ld_b_atHL, 2), (0x47, .ld_b_a, 2),
      (0x48, .ld_c_b, 2), (0x49, .ld_c_c, 2), (0x4A, .ld_c_d, 2), (0x4B, .ld_c_e, 2),
      (0x4C, .ld_c_h, 2), (0x4D, .ld_c_l, 2), (0x4E, .ld_c_atHL, 2), (0x4F, .ld_c_a, 2)] : List (Nat × Instr × Nat)),
      read3 e.1 = .ok e.2 := by decide

theorem test_decode_row_5 :
    ∀ e ∈ ([
      (0x50, .ld_d_b, 2), (0x51, .ld_d_c, 2), (0x52, .ld_d_d, 2), (0x53, .ld_d_e, 2),
      (0x54, .ld_d_h, 2), (0x55, .ld_d_l, 2), (0x56, .ld_d_atHL, 2), (0x57, .ld_d_a, 2),
      (0x58, .ld_e_b, 2), (0x59, .ld_e_c, 2), (0x5A, .ld_e_d, 2), (0x5B, .ld_e_e, 2),
      (0x5C, .ld_e_h, 2), (0x5D, .ld_e_l, 2), (0x5E, .ld_e_atHL, 2), (0x5F, .ld_e_a, 2)] : List (Nat × Instr × Nat)),
      read3 e.1 = .ok e.2 := by decide

theorem test_decode_row_6 :
    ∀ e ∈ ([
      (0x60, .ld_h_b, 2), (0x61, .ld_h_c, 2), (0x62, .ld_h_d, 2), (0x63, .ld_h_e, 2),
      (0x64, .ld_h_h, 2), (0x65, .ld_h_l, 2), (0x66, .ld_h_atHL, 2), (0x67, .ld_h_a, 2),
      (0x68, .ld_l_b, 2), (0x69, .ld_l_c, 2), (0x6A, .ld_l_d, 2), (0x6B, .ld_l_e, 2),
      (0x6C, .ld_l_h, 2), (0x6D, .ld_l_l, 2), (0x6E, .ld_l_atHL, 2), (0x6F, .ld_l_a, 2)] : List (Nat × Instr × Nat)),
      read3 e.1 = .ok e.2 := by decide

theorem test_decode_row_7 :
    ∀ e ∈ ([
      (0x70, .ld_atHL_b, 2), (0x71, .ld_atHL_c, 2), (0x72, .ld_atHL_d, 2), (0x73, .ld_atHL_e, 2),
      (0x74, .ld_atHL_h, 2), (0x75, .ld_atHL_l, 2), (0x76, .halt, 2), (0x77, .ld_atHL_a, 2),
      (0x78, .ld_a_b, 2), (0x79, .ld_a_c, 2), (0x7A, .ld_a_d, 2), (0x7B, .ld_a_e, 2),
      (0x7C, .ld_a_h, 2), (0x7D, .ld_a_l, 2), (0x7E, .ld_a_atHL, 2), (0x7F, .ld_a_a, 2)] : List (Nat × Instr × Nat)),
      read3 e.1 = .ok e.2 := by decide

theorem test_decode_row_8 :
    ∀ e ∈ ([
      (0x80, .add_a_b, 2), (0x81, .add_a_c, 2), (0x82, .add_a_d, 2), (0x83, .add_a_e, 2),
      (0x84, .add_a_h, 2), (0x85, .add_a_l, 2), (0x86, .add_a_atHL, 2), (0x87, .add_a_a, 2),
      (0x88, .adc_a_b, 2), (0x89, .adc_a_c, 2), (0x8A, .adc_a_d, 2), (0x8B, .adc_a_e, 2),
      (0x8C, .adc_a_h, 2), (0x8D, .adc_a_l, 2), (0x8E, .adc_a_atHL, 2), (0x8F, .adc_a_a, 2)] : List (Nat × Instr × Nat)),
      read3 e.1 = .ok e.2 := by decide

theorem test_decode_row_9 :
    ∀ e ∈ ([
      (0x90, .sub_b, 2), (0x91, .sub_c, 2), (0x92, .sub_d, 2), (0x93, .sub_e, 2),
      (0x94, .sub_h, 2), (0x95, .sub_l, 2), (0x96, .sub_atHL, 2), (0x97, .sub_a, 2),
      (0x98, .sbc_a_b, 2), (0x99, .sbc_a_c, 2), (0x9A, .sbc_a_d, 2), (0x9B, .sbc_a_e, 2),
      (0x9C, .sbc_a_h, 2), (0x9D, .sbc_a_l, 2), (0x9E, .sbc_a_atHL, 2), (0x9F, .sbc_a_a, 2)] : List (Nat × Instr × Nat)),
      read3 e.1 = .ok e.2 := by decide

theorem test_decode_row_A :
    ∀ e ∈ ([
      (0xA0, .and_b, 2), (0xA1, .and_c, 2), (0xA2, .and_d, 2), (0xA3, .and_e, 2),
      (0xA4, .and_h, 2), (0xA5, .and_l, 2), (0xA6, .and_atHL, 2), (0xA7, .and_a, 2),
      (0xA8, .xor_b, 2), (0xA9, .xor_c, 2), (0xAA, .xor_d, 2), (0xAB, .xor_e, 2),
      (0xAC, .xor_h, 2), (0xAD, .xor_l, 2), (0xAE, .xor_atHL, 2), (0xAF, .xor_a, 2)] : List (Nat × Instr × Nat)),
      read3 e.1 = .ok e.2 := by decide

theorem test_decode_row_B :
    ∀ e ∈ ([
      (0xB0, .or_b, 2), (0xB1, .or_c, 2), (0xB2, .or_d, 2), (0xB3, .or_e, 2),
      (0xB4, .or_h, 2), (0xB5, .or_l, 2), (0xB6, .or_atHL, 2), (0xB7, .or_a, 2),
      (0xB8, .cp_b, 2), (0xB9, .cp_c, 2), (0xBA, .cp_d, 2), (0xBB, .cp_e, 2),
      (0xBC, .cp_h, 2), (0xBD, .cp_l, 2), (0xBE, .cp_atHL, 2), (0xBF, .cp_a, 2)] : List (Nat × Instr × Nat)),
      read3 e.1 = .ok e.2 := by decide

theorem test_decode_row_C :
    ∀ e ∈ ([
      (0xC0, .ret_nz, 2), (0xC1, .pop_bc, 2), (0xC2, .jp_nz_nn 0x5CBA, 0), (0xC3, .jp_nn 0x5CBA, 0),
      (0xC4, .call_nz_nn 0x5CBA, 0), (0xC5, .push_bc, 2), (0xC6, .add_a_n 0xBA, 1), (0xC7, .rst_00, 2),
      (0xC8, .ret_z, 2), (0xC9, .ret, 2), (0xCA, .jp_z_nn 0x5CBA, 0), (0xCB, .res_r 7 .d, 1),
      (0xCC, .call_z_nn 0x5CBA, 0), (0xCD, .call_nn 0x5CBA, 0), (0xCE, .adc_a_n 0xBA, 1), (0xCF, .rst_08, 2)] : List (Nat × Instr × Nat)),
      read3 e.1 = .ok e.2 := by decide

theorem test_decode_row_D :
    ∀ e ∈ ([
      (0xD0, .ret_nc, 2), (0xD1, .pop_de, 2), (0xD2, .jp_nc_nn 0x5CBA, 0), (0xD3, .illegal_d3, 2),
      (0xD4, .call_nc_nn 0x5CBA, 0), (0xD5, .push_de, 2), (0xD6, .sub_n 0xBA, 1), (0xD7, .rst_10, 2),
      (0xD8, .ret_c, 2), (0xD9, .reti, 2), (0xDA, .jp_c_nn 0x5CBA, 0), (0xDB, .illegal_db, 2),
      (0xDC, .call_c_nn 0x5CBA, 0), (0xDD, .illegal_dd, 2), (0xDE, .sbc_a_n 0xBA, 1), (0xDF, .rst_18, 2)] : List (Nat × Instr × Nat)),
      read3 e.1 = .ok e.2 := by decide

theorem test_decode_row_E :
    ∀ e ∈ ([
      (0xE0, .ldh_atN_a 0xBA, 1), (0xE1, .pop_hl, 2), (0xE2, .ld_atC_a, 2), (0xE3, .illegal_e3, 2),
      (0xE4, .illegal_e4, 2), (0xE5, .push_hl, 2), (0xE6, .and_n 0xBA, 1), (0xE7, .rst_20, 2),
      (0xE8, .add_sp_e 0xBA, 1), (0xE9, .jp_hl, 2), (0xEA, .ld_atNN_a 0x5CBA, 0), (0xEB, .illegal_eb, 2),
      (0xEC, .illegal_ec, 2), (0xED, .illegal_ed, 2), (0xEE, .xor_n 0xBA, 1), (0xEF, .rst_28, 2)] : List (Nat × Instr × Nat)),
      read3 e.1 = .ok e.2 := by decide

theorem test_decode_row_F :
    ∀ e ∈ ([
      (0xF0, .ldh_a_atN 0xBA, 1), (0xF1, .pop_af, 2), (0xF2, .ld_a_atC, 2), (0xF3, .di, 2),
      (0xF4, .illegal_f4, 2), (0xF5, .push_af, 2), (0xF6, .or_n 0xBA, 1), (0xF7, .rst_30, 2),
      (0xF8, .ld_hl_spe 0xBA, 1), (0xF9, .ld_sp_hl, 2), (0xFA, .ld_a_atNN 0x5CBA, 0), (0xFB, .ei, 2),
      (0xFC, .illegal_fc, 2), (0xFD, .illegal_fd, 2), (0xFE, .cp_n 0xBA, 1), (0xFF, .rst_38, 2)] : List (Nat × Instr × Nat)),
      read3 e.1 = .ok e.2 := by decide

/-- The CB map of R163, on words written out from the encodings of 44_rotate_shift_bit.md. -/
theorem test_decode_cb :
    ∀ e ∈ ([
      (0x00, .rlc_r .b), (0x06, .rlc_atHL), (0x09, .rrc_r .c), (0x0E, .rrc_atHL),
      (0x12, .rl_r .d), (0x16, .rl_atHL), (0x1B, .rr_r .e), (0x1E, .rr_atHL),
      (0x24, .sla_r .h), (0x26, .sla_atHL), (0x2D, .sra_r .l), (0x2E, .sra_atHL),
      (0x37, .swap_r .a), (0x36, .swap_atHL), (0x38, .srl_r .b), (0x3E, .srl_atHL),
      (0x7C, .bit_r 7 .h), (0x47, .bit_r 0 .a), (0xBF, .res_r 7 .a), (0x80, .res_r 0 .b),
      (0xFD, .set_r 7 .l), (0xCA, .set_r 1 .d), (0x7E, .bit_atHL 7), (0x9E, .res_atHL 3),
      (0xF6, .set_atHL 6)] : List (Byte × Instr)),
      decode [0xCB, e.1] = .ok (e.2, []) := by decide

/-- An instruction cut short is refused by name. -/
theorem test_decode_short : decode [] = .error .noOpcode ∧ decode [0xC3, 0x50] = .error .missingOperand := by decide

/-- The host's numbering of table words: an operand word of zeros, and the second byte of a CB row. -/
theorem test_decode_table_word :
    decodeTableWord 8 0x3E = some (.ld_a_n 0) ∧ decodeTableWord 16 0xCB7C = some (.bit_r 7 .h)
      ∧ decodeTableWord 8 0xCD = some (.call_nn 0) := by decide

/-! ### One step, on the vectors of 95_test_vectors.md -/

/-- The start state of 95_test_vectors.md with bytes put at PC (0x0100). -/
def start (l : List Byte) : State := State.reset.placeBytes 0x0100 l

/-- The start state with other registers. -/
def startWith (l : List Byte) (f : Regs → Regs) : State := { start l with regs := f Regs.reset }

/-- With F in hex, as the vectors write it. -/
def withF (v : Byte) (r : Regs) : Regs :=
  { r with fz := v.getLsbD 7, fn := v.getLsbD 6, fh := v.getLsbD 5, fc := v.getLsbD 4 }

/-- With a byte of WRAM at 0xC000. -/
def withC000 (v : Byte) (s : State) : State := { s with mem := { s.mem with wram := [(0, v)] } }

/-- One step takes `n` M-cycles and its state passes the check. -/
def steps (s : State) (n : Nat) (p : State → Bool) : Bool :=
  match step s with
  | .next t => t.cycles == s.cycles + n && p t
  | .fault _ => false
  | .refused _ => false

/-! #### 8-bit loads -/

theorem test_L1_ld_b_c : steps (startWith [0x41] fun r => { r with c := 0x5A }) 1
    (fun t => t.regs.b == 0x5A && t.f == 0xB0 && t.regs.pc == 0x0101) = true := by decide

theorem test_L2_ld_hlinc_a_reaches_ie : steps (startWith [0x22] fun r => { r with h := 0xFF, l := 0xFF, a := 0x1F }) 2
    (fun t => t.irq.ie == 0x1F && t.hl == 0x0000) = true := by decide

theorem test_L3_ld_a_hldec : steps (withC000 0x99 (startWith [0x3A] fun r => { r with h := 0xC0, l := 0x00 })) 2
    (fun t => t.regs.a == 0x99 && t.hl == 0xBFFF) = true := by decide

theorem test_L4_ldh_a_ly : steps (start [0xF0, 0x44]) 3 (fun t => t.regs.a == 0x00) = true := by decide

theorem test_L5_ld_a_atC_p1 : steps (startWith [0xF2] fun r => { r with c := 0x00 }) 2
    (fun t => t.regs.a == 0xCF) = true := by decide

theorem test_L6_ld_atC_a : steps (startWith [0xE2] fun r => { r with c := 0x80, a := 0x42 }) 2
    (fun t => t.busRead 0xFF80 == 0x42) = true := by decide

theorem test_L7_ld_atHL_n_echo : steps (startWith [0x36, 0x77] fun r => { r with h := 0xE0, l := 0x10 }) 3
    (fun t => t.busRead 0xC010 == 0x77) = true := by decide

theorem test_L8_ld_rom_ignored : steps (startWith [0xEA, 0x00, 0x40] fun r => { r with a := 0x42 }) 4
    (fun t => t.busRead 0x4000 == 0x00) = true := by decide

theorem test_L9_ld_a_no_ram : steps (start [0xFA, 0x00, 0xA0]) 4 (fun t => t.regs.a == 0xFF) = true := by decide

/-- The start state at unit `u` of line 0 in mode `m`, with VRAM's first byte 0x42. -/
def onLine0 (l : List Byte) (u : Nat) (m : Mode) : State :=
  let s := start l
  { s with pic := { s.pic with u := u, mode := m }, mem := { s.mem with vram := [(0, 0x42)] } }

theorem test_L10_vram_blocked_in_mode_3 : steps (onLine0 [0xFA, 0x00, 0x80] 25 .transfer) 4
    (fun t => t.regs.a == 0xFF) = true := by decide

theorem test_L11_vram_open_at_unit_19 : steps (onLine0 [0xFA, 0x00, 0x80] 19 .oamSearch) 4
    (fun t => t.regs.a == 0x42 && t.pic.mode == .transfer) = true := by decide

theorem test_L12_ldh_ly_ignored : steps (startWith [0xE0, 0x44] fun r => { r with a := 0x55 }) 3
    (fun t => t.busRead 0xFF44 == 0x00) = true := by decide

theorem test_L13_ldh_if : steps (startWith [0xE0, 0x0F] fun r => { r with a := 0xFF }) 3
    (fun t => t.busRead 0xFF0F == 0xFF) = true := by decide

theorem test_L_ld_bc_a : steps (startWith [0x02] fun r => { r with b := 0xC0, c := 0x01, a := 0x5C }) 2
    (fun t => t.busRead 0xC001 == 0x5C && t.f == 0xB0) = true := by decide

/-! #### 16-bit loads and the stack -/

theorem test_W1_ld_bc_nn : steps (start [0x01, 0x34, 0x12]) 3 (fun t => t.bc == 0x1234) = true := by decide

theorem test_W2_ld_nn_sp : steps (startWith [0x08, 0x00, 0xC1] fun r => { r with sp := 0xABCD }) 5
    (fun t => t.busRead 0xC100 == 0xCD && t.busRead 0xC101 == 0xAB) = true := by decide +kernel

theorem test_W3_ld_sp_hl : steps (startWith [0xF9] fun r => { r with h := 0xC0, l := 0x00 }) 2
    (fun t => t.regs.sp == 0xC000) = true := by decide

theorem test_W4_ld_hl_spe : steps (startWith [0xF8, 0x01] fun r => withF 0xC0 { r with sp := 0x000F }) 3
    (fun t => t.hl == 0x0010 && t.f == 0x20) = true := by decide

theorem test_W5_ld_hl_spe_negative : steps (startWith [0xF8, 0xFE] fun r => { r with sp := 0xD000 }) 3
    (fun t => t.hl == 0xCFFE && t.f == 0x00) = true := by decide

theorem test_W6_push_af : steps (start [0xF5]) 4
    (fun t => t.busRead 0xFFFD == 0x01 && t.busRead 0xFFFC == 0xB0 && t.regs.sp == 0xFFFC) = true := by decide

theorem test_W7_pop_af : steps (withC000 0xFF (startWith [0xF1] fun r => { r with sp := 0xC000 })) 3
    (fun t => t.regs.a == 0x00 && t.f == 0xF0 && t.regs.sp == 0xC002) = true := by decide

theorem test_W8_pop_bc_wraps : steps (startWith [0xC1] fun r => { r with sp := 0xFFFF }) 3
    (fun t => t.bc == 0x0000 && t.regs.sp == 0x0001) = true := by decide

/-! #### 8-bit arithmetic and logic -/

/-- The start state with A, B and F. -/
def abf (l : List Byte) (a b f : Byte) : State := startWith l fun r => withF f { r with a := a, b := b }

/-- A and F after the step. -/
def af (a f : Byte) (t : State) : Bool := t.regs.a == a && t.f == f

theorem test_A1_add : steps (abf [0x80] 0x3A 0xC6 0x00) 1 (af 0x00 0xB0) = true := by decide

theorem test_A2_add_half : steps (abf [0x80] 0x08 0x08 0x00) 1 (af 0x10 0x20) = true := by decide

theorem test_A3_adc_n : steps (abf [0xCE, 0x0F] 0xE1 0x00 0x10) 2 (af 0xF1 0x20) = true := by decide

theorem test_A4_adc_a_a : steps (abf [0x8F] 0x80 0x00 0x10) 1 (af 0x01 0x10) = true := by decide

theorem test_A5_sub : steps (abf [0x90] 0x3E 0x3E 0x00) 1 (af 0x00 0xC0) = true := by decide

theorem test_A7_sub_borrow : steps (abf [0xD6, 0x40] 0x3E 0x00 0x00) 2 (af 0xFE 0x50) = true := by decide

theorem test_A8_sbc_h : steps (startWith [0x9C] fun r => withF 0x10 { r with a := 0x3B, h := 0x2A }) 1
    (af 0x10 0x40) = true := by decide

theorem test_A9_sbc_n : steps (abf [0xDE, 0xFF] 0x00 0x00 0x10) 2 (af 0x00 0xF0) = true := by decide

theorem test_A10_and : steps (abf [0xE6, 0x3F] 0x5A 0x00 0x10) 2 (af 0x1A 0x20) = true := by decide

theorem test_A12_xor : steps (abf [0xAF] 0x5A 0x00 0x70) 1 (af 0x00 0x80) = true := by decide

theorem test_A13_or : steps (startWith [0xB1] fun r => withF 0xF0 { r with a := 0x5A, c := 0x0F }) 1
    (af 0x5F 0x00) = true := by decide

theorem test_A14_cp_less : steps (abf [0xFE, 0x40] 0x3C 0x00 0x00) 2 (af 0x3C 0x50) = true := by decide

theorem test_A16_cp_half : steps (abf [0xFE, 0x2F] 0x3C 0x00 0x00) 2 (af 0x3C 0x60) = true := by decide

theorem test_A17_inc_wraps : steps (abf [0x3C] 0xFF 0x00 0x10) 1 (af 0x00 0xB0) = true := by decide

theorem test_A19_dec_zero : steps (abf [0x05] 0x00 0x01 0x10) 1
    (fun t => t.regs.b == 0x00 && t.f == 0xD0) = true := by decide

theorem test_A20_dec_wraps : steps (abf [0x05] 0x00 0x00 0x00) 1
    (fun t => t.regs.b == 0xFF && t.f == 0x60) = true := by decide

theorem test_A22_inc_atHL :
    steps (withC000 0x82 (startWith [0x34] fun r => withF 0x10 { r with h := 0xC0, l := 0x00 })) 3
      (fun t => t.busRead 0xC000 == 0x83 && t.f == 0x10) = true := by decide

theorem test_A23_dec_atHL :
    steps (withC000 0x83 (startWith [0x35] fun r => withF 0x10 { r with h := 0xC0, l := 0x00 })) 3
      (fun t => t.busRead 0xC000 == 0x82 && t.f == 0x50) = true := by decide

theorem test_A24_daa : steps (abf [0x27] 0x9A 0x00 0x00) 1 (af 0x00 0x90) = true := by decide

/-- The DAA of A25, on what its SUB leaves. -/
theorem test_A25_daa_after_sub : steps (abf [0x27] 0x0F 0x00 0x60) 1 (af 0x09 0x40) = true := by decide

theorem test_A30_cpl : steps (abf [0x2F] 0x35 0x00 0x90) 1 (af 0xCA 0xF0) = true := by decide

theorem test_A31_scf : steps (abf [0x37] 0x01 0x00 0xE0) 1 (af 0x01 0x90) = true := by decide

theorem test_A32_ccf : steps (abf [0x3F] 0x01 0x00 0xF0) 1 (af 0x01 0x80) = true := by decide

/-! #### 16-bit arithmetic -/

theorem test_B1_add_hl_bc :
    steps (startWith [0x09] fun r => withF 0x80 { r with h := 0x8A, l := 0x23, b := 0x06, c := 0x05 }) 2
      (fun t => t.hl == 0x9028 && t.f == 0xA0) = true := by decide

theorem test_B3_add_hl_sp :
    steps (startWith [0x39] fun r => withF 0x00 { r with h := 0xFF, l := 0xFF, sp := 0x0001 }) 2
      (fun t => t.hl == 0x0000 && t.f == 0x30) = true := by decide

theorem test_B4_inc_sp : steps (startWith [0x33] fun r => withF 0xF0 { r with sp := 0xFFFF }) 2
    (fun t => t.regs.sp == 0x0000 && t.f == 0xF0) = true := by decide

theorem test_B5_dec_bc : steps (startWith [0x0B] fun r => withF 0x00 { r with b := 0x00, c := 0x00 }) 2
    (fun t => t.bc == 0xFFFF && t.f == 0x00) = true := by decide

theorem test_B6_add_sp_e : steps (startWith [0xE8, 0xFF] fun r => withF 0xF0 { r with sp := 0x0000 }) 4
    (fun t => t.regs.sp == 0xFFFF && t.f == 0x00) = true := by decide

theorem test_B7_add_sp_e_carries : steps (startWith [0xE8, 0xFF] fun r => withF 0x00 { r with sp := 0xFFFF }) 4
    (fun t => t.regs.sp == 0xFFFE && t.f == 0x30) = true := by decide

/-! #### Rotates, shifts and bits -/

theorem test_T1_rlca : steps (abf [0x07] 0x85 0x00 0x00) 1 (af 0x0B 0x10) = true := by decide

theorem test_T3_rra : steps (abf [0x1F] 0x01 0x00 0x00) 1 (af 0x00 0x10) = true := by decide

theorem test_T4_rlc_b : steps (abf [0xCB, 0x00] 0x01 0x80 0x00) 2
    (fun t => t.regs.b == 0x01 && t.f == 0x10) = true := by decide

theorem test_T6_rr_d : steps (startWith [0xCB, 0x1A] fun r => withF 0x10 { r with d := 0x01 }) 2
    (fun t => t.regs.d == 0x80 && t.f == 0x10) = true := by decide

theorem test_T7_sla_e : steps (startWith [0xCB, 0x23] fun r => withF 0x00 { r with e := 0xFF }) 2
    (fun t => t.regs.e == 0xFE && t.f == 0x10) = true := by decide

theorem test_T8_sra_a : steps (abf [0xCB, 0x2F] 0x8A 0x00 0x00) 2 (af 0xC5 0x00) = true := by decide

theorem test_T10_swap_a : steps (abf [0xCB, 0x37] 0xF0 0x00 0x10) 2 (af 0x0F 0x00) = true := by decide

theorem test_T12_srl_a : steps (abf [0xCB, 0x3F] 0x01 0x00 0x00) 2 (af 0x00 0x90) = true := by decide

theorem test_T13_bit_7_h : steps (startWith [0xCB, 0x7C] fun r => withF 0x10 { r with h := 0x7F }) 2
    (fun t => t.regs.h == 0x7F && t.f == 0xB0) = true := by decide

/-- The start state with HL = 0xC000, a byte there and F. -/
def atHl (l : List Byte) (v f : Byte) : State :=
  withC000 v (startWith l fun r => withF f { r with h := 0xC0, l := 0x00 })

theorem test_T15_rlc_atHL : steps (atHl [0xCB, 0x06] 0x81 0x00) 4
    (fun t => t.busRead 0xC000 == 0x03 && t.f == 0x10) = true := by decide

theorem test_T16_res_0_atHL : steps (atHl [0xCB, 0x86] 0x03 0x10) 4
    (fun t => t.busRead 0xC000 == 0x02 && t.f == 0x10) = true := by decide

theorem test_T17_set_7_atHL : steps (atHl [0xCB, 0xFE] 0x02 0x10) 4
    (fun t => t.busRead 0xC000 == 0x82 && t.f == 0x10) = true := by decide

theorem test_T18_bit_0_atHL : steps (atHl [0xCB, 0x46] 0x82 0x00) 3 (fun t => t.f == 0xA0) = true := by decide

/-! #### Control transfer -/

theorem test_J1_jp : steps (start [0xC3, 0x50, 0x01]) 4 (fun t => t.regs.pc == 0x0150) = true := by decide

theorem test_J2_jp_nz_not_taken : steps (startWith [0xC2, 0x00, 0x02] (withF 0x80)) 3
    (fun t => t.regs.pc == 0x0103) = true := by decide

theorem test_J3_jp_z_taken : steps (startWith [0xCA, 0x00, 0x02] (withF 0x80)) 4
    (fun t => t.regs.pc == 0x0200) = true := by decide

theorem test_J4_jp_hl : steps (startWith [0xE9] fun r => { r with h := 0xC0, l := 0x00 }) 1
    (fun t => t.regs.pc == 0xC000) = true := by decide

theorem test_J6_jr_back : steps (start [0x18, 0x80]) 3 (fun t => t.regs.pc == 0x0082) = true := by decide

theorem test_J7_jr_forward : steps (start [0x18, 0x7F]) 3 (fun t => t.regs.pc == 0x0181) = true := by decide

theorem test_J8_jr_nc_taken : steps (startWith [0x30, 0x05] (withF 0x00)) 3
    (fun t => t.regs.pc == 0x0107) = true := by decide

theorem test_J9_jr_c_not_taken : steps (startWith [0x38, 0x05] (withF 0x00)) 2
    (fun t => t.regs.pc == 0x0102) = true := by decide

theorem test_J10_call : steps (start [0xCD, 0x34, 0x12]) 6
    (fun t => t.regs.pc == 0x1234 && t.regs.sp == 0xFFFC && t.busRead 0xFFFD == 0x01 && t.busRead 0xFFFC == 0x03)
      = true := by decide +kernel

theorem test_J11_call_z_not_taken : steps (startWith [0xCC, 0x34, 0x12] (withF 0x00)) 3
    (fun t => t.regs.pc == 0x0103 && t.regs.sp == 0xFFFE) = true := by decide

/-- The start state of J12 to J15: SP = 0xDFFC with the word 0x1234 there. -/
def withReturn (l : List Byte) (f : Byte) : State :=
  let s := startWith l fun r => withF f { r with sp := 0xDFFC }
  { s with mem := { s.mem with wram := [(0x1FFC, 0x34), (0x1FFD, 0x12)] } }

theorem test_J12_ret : steps (withReturn [0xC9] 0xB0) 4
    (fun t => t.regs.pc == 0x1234 && t.regs.sp == 0xDFFE) = true := by decide

theorem test_J13_ret_c_taken : steps (withReturn [0xD8] 0x10) 5
    (fun t => t.regs.pc == 0x1234 && t.regs.sp == 0xDFFE) = true := by decide +kernel

theorem test_J14_ret_c_not_taken : steps (withReturn [0xD8] 0x00) 2
    (fun t => t.regs.pc == 0x0101 && t.regs.sp == 0xDFFC) = true := by decide

theorem test_J15_reti : steps (withReturn [0xD9] 0xB0) 4
    (fun t => t.regs.pc == 0x1234 && t.regs.sp == 0xDFFE && t.ctl.ime) = true := by decide

theorem test_J16_rst_38 : steps (start [0xFF]) 4
    (fun t => t.regs.pc == 0x0038 && t.busRead 0xFFFD == 0x01 && t.busRead 0xFFFC == 0x01) = true := by decide

/-! #### System instructions and interrupts -/

/-- The start state with IME, IE and IF. -/
def withIrq (l : List Byte) (ime : Bool) (ie : Byte) (iflag : BitVec 5) : State :=
  let s := start l
  { s with ctl := { s.ctl with ime := ime }, irq := { iflag := iflag, ie := ie } }

theorem test_K1_nop : steps (start [0x00]) 1 (fun t => t.regs.pc == 0x0101 && t.f == 0xB0) = true := by decide

theorem test_K2_halt : steps (withIrq [0x76] true 0x04 0) 1
    (fun t => t.ctl.halted && t.regs.pc == 0x0101) = true := by decide

theorem test_K3_wake_and_dispatch :
    steps (let s := withIrq [0x76] true 0x04 4
           { s with ctl := { s.ctl with halted := true }, regs := { s.regs with pc := 0x0101 } }) 5
      (fun t => t.regs.pc == 0x0050 && t.regs.sp == 0xFFFC && t.busRead 0xFFFD == 0x01 && t.busRead 0xFFFC == 0x01
        && t.irq.iflag == 0 && !t.ctl.ime && !t.ctl.halted) = true := by decide +kernel

theorem test_K4_halt_without_the_bug : steps (withIrq [0x76, 0x3C] false 0x01 1) 1
    (fun t => t.ctl.halted && !t.ctl.haltbugPending) = true := by decide

theorem test_K5_halt_with_the_bug : steps { withIrq [0x76, 0x3C] false 0x01 1 with haltBug := true } 1
    (fun t => !t.ctl.halted && t.ctl.haltbugPending && t.regs.pc == 0x0101) = true := by decide

/-- The second step of K5: INC A runs and PC stays. -/
theorem test_K5_byte_repeated :
    steps (let s := withIrq [0x3C] false 0x01 1
           { s with haltBug := true, ctl := { s.ctl with haltbugPending := true } }) 1
      (fun t => t.regs.a == 0x02 && t.regs.pc == 0x0100 && !t.ctl.haltbugPending) = true := by decide

theorem test_K6_stop : steps (start [0x10, 0x00]) 1
    (fun t => t.ctl.stopped && t.regs.pc == 0x0102 && t.timer.sys == 1) = true := by decide

theorem test_K7_di : steps (withIrq [0xF3] true 0x00 0) 1 (fun t => !t.ctl.ime) = true := by decide

theorem test_K8_ei : steps (withIrq [0xFB] false 0x01 1) 1
    (fun t => !t.ctl.ime && t.ctl.imeSched) = true := by decide

/-- The step after EI, in K8 and in K9. -/
theorem test_K8_K9_after_ei :
    (let armed := fun l => let s := withIrq l false 0x01 1; { s with ctl := { s.ctl with imeSched := true } }
     steps (armed [0x00]) 1 (fun t => t.ctl.ime && !t.ctl.imeSched)
      && steps (armed [0xF3]) 1 (fun t => !t.ctl.ime && !t.ctl.imeSched)) = true := by decide

theorem test_K11_illegal : steps (start [0xDB]) 1 (fun t => t.ctl.locked && t.regs.pc == 0x0101) = true := by decide

theorem test_K12_cb_prefix : steps (startWith [0xCB, 0x37] fun r => { r with a := 0xF0 }) 2
    (fun t => t.regs.a == 0x0F) = true := by decide

theorem test_I1_lowest_vector : steps (withIrq [0x00] true 0x1F 0x14) 5
    (fun t => t.regs.pc == 0x0050 && t.irq.iflag == 0x10 && t.busRead 0xFFFD == 0x01 && t.busRead 0xFFFC == 0x00)
      = true := by decide +kernel

theorem test_I2_enabled_only : steps (withIrq [0x00] true 0x10 0x15) 5
    (fun t => t.regs.pc == 0x0060 && t.irq.iflag == 0x05) = true := by decide +kernel

theorem test_I3_ime_clear : steps (withIrq [0x00] false 0x1F 0x1F) 1
    (fun t => t.regs.pc == 0x0101 && t.irq.iflag == 0x1F) = true := by decide

theorem test_I4_no_wake : steps (let s := withIrq [0x00] true 0x00 0x1F; { s with ctl := { s.ctl with halted := true } }) 1
    (fun t => t.ctl.halted && t.regs.pc == 0x0100) = true := by decide

theorem test_I5_locked : steps (let s := withIrq [0x00] true 0x01 1; { s with ctl := { s.ctl with locked := true } }) 1
    (fun t => t.ctl.locked && t.regs.pc == 0x0100 && t.irq.iflag == 1) = true := by decide

/-! ### Devices, one M-cycle or one access at a time -/

/-- M3: TIMA counts when `sys` reaches a multiple of 4, and on overflow reloads TMA and requests interrupt 2. -/
theorem test_M3_timer_overflow :
    (let s := start []
     let t := ({ s with timer := { sys := 7, tima := 0xFF, tma := 0x10, tac := 5 }
                        irq := { s.irq with iflag := 0 } } : State).timerTick
     t.timer.tima == 0x10 && t.timer.sys == 8 && t.irq.iflag == 4) = true := by decide

/-- M5 and M6: no count while the timer is off, and a write to DIV clears `sys` with no count. -/
theorem test_M5_M6_timer_off_and_div :
    (let s := start []
     let t := ({ s with timer := { sys := 7, tima := 0xFE, tma := 0x10, tac := 1 } } : State)
     t.timerTick.timer.tima == 0xFE && (t.busWrite 0xFF04 0x55).timer.sys == 0
      && (t.busWrite 0xFF04 0x55).timer.tima == 0xFE) = true := by decide

/-- M1: DIV after reset. -/
theorem test_M1_div : (start []).busRead 0xFF04 = 0xAB := by decide

/-- M7: a transfer starts, and its last M-cycle ends it. -/
theorem test_M7_serial :
    (let s := (start []).busWrite 0xFF02 0x81
     let t := ({ s with ser := { s.ser with count := 1 }, irq := { s.irq with iflag := 0 } } : State).serialTick
     s.busRead 0xFF02 == 0xFF && s.ser.count == 1024 && t.busRead 0xFF02 == 0x7F && t.irq.iflag == 8) = true := by decide

/-- M8: the external clock never ends a transfer. -/
theorem test_M8_serial_external :
    (let s := ((start []).busWrite 0xFF02 0x80).serialTick; s.busRead 0xFF02) = 0xFE := by decide

/-- M9 and M10: the buttons selected, then A pressed. -/
theorem test_M9_M10_joypad :
    (let s := (start []).busWrite 0xFF00 0x10
     let t := ({ s with irq := { s.irq with iflag := 0 } } : State).hostAct (.setKeys 0xE 0xF)
     s.busRead 0xFF00 == 0xDF && t.busRead 0xFF00 == 0xDE && t.irq.iflag == 0x10) = true := by decide

/-- M11 and M12: nothing selected and Down pressed, then the directions selected. -/
theorem test_M11_M12_joypad :
    (let s := (start []).busWrite 0xFF00 0x30
     let t := ({ s with irq := { s.irq with iflag := 0 } } : State).hostAct (.setKeys 0xF 0x7)
     let u := t.busWrite 0xFF00 0x20
     t.busRead 0xFF00 == 0xFF && t.irq.iflag == 0 && u.busRead 0xFF00 == 0xE7 && u.irq.iflag == 0x10) = true := by decide

/-- The PictureTimer at a line and a unit, with no request pending. -/
def onLine (ly u : Nat) (m : Mode) (statEn : BitVec 4) (lyc : Byte) : State :=
  let s := start []
  { s with pic := { s.pic with ly := ly, u := u, mode := m, statEn := statEn, lyc := lyc, coinc := false }
           irq := { s.irq with iflag := 0 } }

/-- P1 and Z3: what the start state reads. -/
theorem test_P1_Z3_start_reads :
    ([0xFF00, 0xFF04, 0xFF07, 0xFF0F, 0xFF40, 0xFF41, 0xFF44, 0xFFFF, 0xFF26].map (start []).busRead)
      = [0xCF, 0xAB, 0xF8, 0xE1, 0x91, 0x86, 0x00, 0x00, 0xF1] := by decide

/-- P2 to P4: modes 3 and 0, and the next line. -/
theorem test_P2_P3_P4_modes :
    ((onLine 0 19 .oamSearch 0 1).ppuTick.pic.mode == .transfer && (onLine 0 62 .transfer 0 1).ppuTick.pic.mode == .hblank
      && (onLine 0 113 .hblank 0 9).ppuTick.pic.ly == 1 && (onLine 0 113 .hblank 0 9).ppuTick.pic.mode == .oamSearch)
      = true := by decide

/-- P5: the STAT request on entering mode 0. -/
theorem test_P5_stat_hblank : (onLine 0 62 .transfer 1 9).ppuTick.irq.iflag = 2 := by decide

/-- P6 and P7: the STAT request of the compare, on a visible line and on a line of the VBlank period. -/
theorem test_P6_P7_stat_compare :
    ((onLine 1 113 .hblank 8 2).ppuTick.irq.iflag == 2 && (onLine 1 113 .hblank 8 2).ppuTick.busRead 0xFF41 == 0xC6
      && (onLine 149 113 .vblank 8 150).ppuTick.irq.iflag == 2) = true := by decide

/-- P8: VBlank. -/
theorem test_P8_vblank :
    (let t := (onLine 143 113 .hblank 0 9).ppuTick
     t.irq.iflag == 1 && t.pic.ly == 144 && t.pic.u == 0 && t.busRead 0xFF41 == 0x81 && t.pic.frameDone) = true := by decide

/-- P9 and P11: the display off, and on again. -/
theorem test_P9_P11_display :
    (let s := (onLine 2 72 .hblank 0 0).busWrite 0xFF40 0x11
     let t := s.busWrite 0xFF40 0x91
     s.busRead 0xFF44 == 0x00 && s.busRead 0xFF41 == 0x80 && t.busRead 0xFF41 == 0x86) = true := by decide

/-- P10: a frame's worth of M-cycles with the display off. -/
theorem test_P10_off_frame :
    (let s := (onLine 2 72 .hblank 0 0).busWrite 0xFF40 0x11
     let t := ({ s with pic := { s.pic with offCount := 17555 } } : State).ppuTick
     t.pic.frameDone && t.irq.iflag == 0 && t.pic.offCount == 0) = true := by decide

/-- P12: the window line of the record of line 2, and the counter after it. -/
theorem test_P12_window :
    (let s := onLine 2 19 .oamSearch 0 9
     let t := ({ s with pic := { s.pic with lcdc := 0xB1, wy := 2 } } : State).ppuTick
     t.pic.lines.map (fun r => (r.ly, r.winLine, r.winOn)) == [(2, 0, true)] && t.pic.winLine == 1) = true := by decide

/-- P13 and P14: VRAM and OAM while the picture unit has them. -/
theorem test_P13_P14_blocked :
    (let s := onLine 0 30 .transfer 0 9
     let t := onLine 0 5 .oamSearch 0 9
     (s.busWrite 0x8000 0x55).mem.vram == [] && t.busRead 0xFE00 == 0xFF && t.busRead 0x8000 == 0x00) = true := by decide

/-- S5: the ten sprites of the example, in its order. -/
theorem test_S5_sprites :
    selectSprites (Store.ofBytes ([50, 20, 20, 90, 5, 200, 0, 77, 20, 33, 10, 11].flatMap (fun x => [16, x, 0, 0]) ++ [17, 1]))
      0x91 0 = [6, 4, 1, 2, 8, 9, 0, 7, 3, 5] := by decide +kernel

/-- S7: DMA from 0xFF00, the first sixteen bytes. -/
theorem test_S7_dma : ((start []).busWrite 0xFF46 0xFF).mem.oam.slice 0 16
    = [0xCF, 0x00, 0x7E, 0xFF, 0xAB, 0x00, 0x00, 0xF8, 0xFF, 0xFF, 0xFF, 0xFF, 0xFF, 0xFF, 0xFF, 0xE1] := by
  decide +kernel

/-- The writes of S8: channel 1 with one length unit left, its length counter on. -/
def oneUnit : State := (((start []).busWrite 0xFF12 0xF0).busWrite 0xFF11 0x3F).busWrite 0xFF14 0xC0

/-- S8: the length clock of step 0 silences it. -/
theorem test_S8_length :
    (let t := ({ oneUnit with snd := { oneUnit.snd with fsCount := 2047 } } : State).apuTick
     oneUnit.busRead 0xFF26 == 0xF1 && t.busRead 0xFF26 == 0xF0) = true := by decide

/-- Q4 and Q5: the trigger reloads an expired length, and a channel with its DAC off stays inactive. -/
theorem test_Q4_Q5_trigger :
    (((start []).busWrite 0xFF14 0xC0).snd.ch1.len == 64
      && (((start []).busWrite 0xFF12 0x00).busWrite 0xFF14 0x80).busRead 0xFF26 == 0xF0) = true := by decide

/-- Q7: the sweep's overflow at the trigger. -/
theorem test_Q7_sweep_overflow :
    ((((start []).busWrite 0xFF10 0x11).busWrite 0xFF13 0xFF).busWrite 0xFF14 0x87).busRead 0xFF26 = 0xF0 := by decide

/-- Q8: the sweep clock of step 2. -/
theorem test_Q8_sweep :
    (let s := (((start []).busWrite 0xFF10 0x11).busWrite 0xFF13 0x00).busWrite 0xFF14 0x84
     let t := s.snd.sweepClock
     s.snd.ch1.active && s.snd.sweep.shadow == 0x400 && t.sweep.shadow == 0x600 && t.nr13 == 0x00
      && t.nr14.toNat % 8 == 6 && !t.ch1.active) = true := by decide

/-- Q9: one envelope step. -/
theorem test_Q9_envelope : (Envelope.clock { vol := 15, timer := 1 } 0xF1 true 0).vol = 14 := by decide

/-- Q10 to Q13: sound power off, ignored and kept writes, and power on. -/
theorem test_Q10_to_Q13_power :
    (let s := (start []).busWrite 0xFF26 0x00
     s.busRead 0xFF26 == 0x70 && s.busRead 0xFF12 == 0x00 && s.busRead 0xFF11 == 0x3F
      && (s.busWrite 0xFF12 0xF0).busRead 0xFF12 == 0x00 && (s.busWrite 0xFF30 0x5A).busRead 0xFF30 == 0x5A
      && (s.busWrite 0xFF26 0x80).busRead 0xFF26 == 0xF0) = true := by decide

/-- A launch with a header, of a bank count that its code names. -/
def cartridge (mbc : Mbc) (romBanks ramSize : Nat) : State :=
  let s := start []
  { s with bank := { s.bank with mbc := mbc, hasRam := decide (ramSize ≠ 0), romBanks := romBanks, ramSize := ramSize } }

/-- The banks at 0x0000 and 0x4000 of a state. -/
def banks (s : State) : Nat × Nat := (s.bank.bank0 % s.bank.romBanks, s.bank.bankN % s.bank.romBanks)

/-- S2: the MBC1 bank law, on its table. -/
theorem test_S2_mbc1_law :
    ∀ e ∈ ([(4, 0x01, 1), (4, 0x00, 1), (4, 0x05, 1), (4, 0x04, 0), (4, 0x43, 3), (4, 0x20, 1), (64, 0x21, 1)]
        : List (Nat × Byte × Nat)),
      (banks ((cartridge .mbc1 e.1 0).busWrite 0x2000 e.2.1)).2 = e.2.2 := by decide

/-- Y1 and Y2: MBC1 with 64 banks. -/
theorem test_Y1_Y2_mbc1 :
    (let s := ((cartridge .mbc1 64 0).busWrite 0x2000 0x21).busWrite 0x4000 0x01
     banks s == (0, 0x21) && banks (s.busWrite 0x6000 0x01) == (0x20, 0x21)) = true := by decide

/-- S3 and Y3: MBC1 RAM enabled by a low nibble of 0xA, and disabled. -/
theorem test_S3_Y3_mbc1_ram :
    (let s := ((cartridge .mbc1 4 0x2000).busWrite 0x0000 0x1A).busWrite 0xA123 0x3C
     s.busRead 0xA123 == 0x3C && (s.busWrite 0x0000 0x00).busRead 0xA123 == 0xFF) = true := by decide +kernel

/-- Y4 to Y6: MBC2's cells, their mirror and its ROM bank. -/
theorem test_Y4_Y5_Y6_mbc2 :
    (let s := ((cartridge .mbc2 16 0).busWrite 0x0000 0x0A).busWrite 0xA000 0x5C
     s.busRead 0xA000 == 0xFC && s.busRead 0xA200 == 0xFC && (banks (s.busWrite 0x2100 0x03)).2 == 3
      && (banks (s.busWrite 0x2100 0x00)).2 == 1) = true := by decide

/-- Y7, and the write half of Y8: MBC3's bank and its clock registers. -/
theorem test_Y7_Y8_mbc3 :
    (let s := ((cartridge .mbc3 128 0x2000).busWrite 0x0000 0x0A).busWrite 0x4000 0x08
     (banks ((cartridge .mbc3 128 0).busWrite 0x2000 0x00)).2 == 1 && s.busWrite 0xA000 0x55 == s) = true := by decide

/-- Y9 and Y10: MBC5's nine bits. -/
theorem test_Y9_Y10_mbc5 :
    (let s := (cartridge .mbc5 512 0).busWrite 0x2000 0x00
     (banks (s.busWrite 0x3000 0x01)).2 == 0x100 && (banks (s.busWrite 0x3000 0x00)).2 == 0) = true := by decide

/-- Y12: writes to the unusable range. -/
theorem test_Y12_unusable : (start []).busWrite 0xFEA0 0x55 = start [] ∧ (start []).busWrite 0xFEFF 0x55 = start [] := by
  decide

/-- Y13: a header code that the image does not fit. -/
theorem test_Y13_refused :
    (match State.launch { LaunchParams.default with cart := List.replicate 0x148 0 ++ [1] } with
      | .error e => e == .imageSize
      | .ok _ => false) = true := by decide +kernel

/-- Y14: an unsupported mapper type falls back. -/
theorem test_Y14_fallback :
    Bank.ofHeader 0x20 0 0 = { Bank.reset with mbc := .fallback }
      ∧ (cartridge .fallback 4 0).busWrite 0x2000 0x05 = cartridge .fallback 4 0 := by decide

/-- Z5: the overlay, and a write of BOOT. -/
theorem test_Z5_boot :
    (let s := ({ start [] with bootRom := some [(0, 0x31)], bootOff := false } : State)
     s.busRead 0x0000 == 0x31 && (s.busWrite 0xFF50 0x01).busRead 0x0000 == 0x00 && s.busWrite 0xFF50 0x00 == s)
      = true := by decide

/-- The host's placing of a table word: the very next step runs it, here CB 37 (SWAP A) and LD A,n. -/
theorem test_with_fetch_word :
    (steps (State.reset.withFetchWord 16 0xCB37) 2 (fun t => t.regs.a == 0x10)
      && steps (State.reset.withFetchWord 16 0x5A3E) 2 (fun t => t.regs.a == 0x5A)) = true := by decide

/-! ### Witnesses: states and operands that meet the hypotheses of the statements, at the ends of their ranges -/

theorem witness_DecodeOfEncode : (Instr.set_r 7 .l).wellFormed = true ∧ (Instr.call_c_nn 0xFFFF).wellFormed = true := by
  decide

theorem witness_EncodeOfDecode : decode [0xDC, 0xFF, 0x00, 0x12] = .ok (.call_c_nn 0x00FF, [0x12]) := by decide

theorem witness_PopPair : StackReg.hl ≠ .af := by decide

/-- The start state with SP. -/
def atSp (v : Word) : State := startWith [] fun r => { r with sp := v }

theorem start_memOk (f : Regs → Regs) : (startWith [] f).MemOk :=
  ⟨(by decide : (start []).mem.wf (start []).bank = true), fun _ h => by cases h⟩

/-- The lowest and the highest stack in each memory that never blocks, with AF pushed. -/
theorem witness_PushThenPop :
    (∀ v : Word, (atSp v).MemOk)
      ∧ (∀ v ∈ ([0xC002, 0xFE00, 0xFF82, 0x0000] : List Word),
          ramAddr ((atSp v).regs.sp - 1) ∧ ramAddr ((atSp v).regs.sp - 2))
      ∧ ((atSp 0xC002).stackReg .af).toNat % 16 = 0 := by
  refine ⟨fun _ => start_memOk _, fun v hv => ?_, by decide⟩
  simp only [List.mem_cons, List.not_mem_nil, or_false] at hv
  rcases hv with rfl | rfl | rfl | rfl <;> exact ⟨by unfold ramAddr; decide, by unfold ramAddr; decide⟩

theorem witness_AddToA : AluOp.adc = .add ∨ AluOp.adc = .adc := by decide

theorem witness_SubtractFromA : AluOp.cp = .sub ∨ AluOp.cp = .sbc ∨ AluOp.cp = .cp := by decide

theorem witness_LogicOnA : AluOp.or = .and ∨ AluOp.or = .xor ∨ AluOp.or = .or := by decide

/-- DAA after an addition and after a subtraction. -/
theorem witness_AccumulatorAndFlags : (abf [] 0 0 0x00).regs.fn = false ∧ (abf [] 0 0 0x40).regs.fn = true := by decide

theorem witness_DecimalSum : IsBcd ((abf [] 0x99 0 0x10).reg .a) ∧ IsBcd 0x00 ∧ IsBcd 0x99 ∧ ¬ IsBcd 0x9A := by
  unfold IsBcd
  decide

theorem witness_RotateA :
    (Instr.rra, (0x1F : Byte), RotOp.rr)
      ∈ [(Instr.rlca, (0x07 : Byte), RotOp.rlc), (.rrca, 0x0F, .rrc), (.rla, 0x17, .rl), (.rra, 0x1F, .rr)] := by decide

/-- Each condition true and false, for the jumps, calls and returns. -/
theorem witness_Calls :
    (abf [] 0 0 0x90).cond .z = true ∧ (abf [] 0 0 0x90).cond .c = true ∧ (abf [] 0 0 0x90).cond .nz = false
      ∧ (abf [] 0 0 0x00).cond .nc = true := by decide

theorem witness_IllegalLocks : Instr.illegal_fd ∈ Instr.illegals ∧ (start []).lock.ctl.locked = true := by decide

/-- The start state fetches the instruction at 0x0100. -/
theorem start_fetches_inc_a : (start [0x3C]).fetches .inc_a :=
  ⟨by unfold State.runsInstr; decide +kernel, by decide, [0x00, 0x00], by decide +kernel⟩

theorem witness_StepRunsDecodedInstruction : (start [0x3C]).fetches .inc_a ∧ (start [0xFB]).fetches .ei :=
  ⟨start_fetches_inc_a, by unfold State.runsInstr; decide +kernel, by decide, [0x00, 0x00], by decide +kernel⟩

/-- A byte to repeat before LD A,n: the opcode is its own operand. -/
theorem witness_StepRepeatsByte :
    (let s := start [0x3E, 0x5A]
     let t := ({ s with haltBug := true, ctl := { s.ctl with haltbugPending := true } } : State)
     (t.runsInstr ∧ t.ctl.haltbugPending = true)
      ∧ decode [t.busRead t.regs.pc, t.busRead t.regs.pc, t.busRead (t.regs.pc + 1)] = .ok (.ld_a_n 0x3E, [0x5A])) := by
  unfold State.runsInstr
  decide +kernel

/-- A halted CPU with an interrupt to wake it, with IME clear and set, and one with none. -/
theorem witness_WakeAndIdle :
    (let s := (withIrq [] false 0x10 0x1F).halt
     let t := (withIrq [] true 0x10 0x1F).halt
     let u := (withIrq [] true 0x00 0x1F).halt
     (s.ctl.locked = false ∧ s.pending ≠ 0 ∧ s.ctl.ime = false) ∧ (t.ctl.locked = false ∧ t.pending ≠ 0 ∧ t.ctl.ime = true)
      ∧ (u.pending = 0 ∧ u.ctl.halted = true)) := by decide

theorem witness_InterruptDispatch :
    (let s := withIrq [] true 0x1F 0x10; s.ctl.locked = false ∧ s.pending ≠ 0 ∧ s.ctl.ime = true) := by decide

theorem every_step_answers (s : State) : ∃ t, step s = .next t :=
  let ⟨u, n, h, _⟩ := step_cases s
  ⟨u.advance n, h⟩

/-- Each clause of EiDelay: EI with IME clear and with IME set, an armed step, a step with no delay, an idle and a dispatch. -/
theorem witness_EiDelay :
    (∀ s : State, ∃ t, step s = .next t)
      ∧ ((start [0xFB]).fetches .ei ∧ (start [0xFB]).ctl.ime = false ∧ (start [0xFB]).ctl.imeSched = false)
      ∧ ((withIrq [0xFB] true 0 0).fetches .ei ∧ (withIrq [0xFB] true 0 0).ctl.ime = true
          ∧ (withIrq [0xFB] true 0 0).ctl.imeSched = false)
      ∧ ((start [0x3C]).armIme.fetches .inc_a ∧ (start [0x3C]).armIme.ctl.imeSched = true)
      ∧ ((start [0x3C]).fetches .inc_a ∧ (start [0x3C]).ctl.imeSched = false ∧ Instr.inc_a ≠ .ei)
      ∧ (start []).lock.ctl.locked = true
      ∧ (let s := withIrq [] true 0x1F 0x10; s.ctl.locked = false ∧ s.pending ≠ 0 ∧ s.ctl.ime = true) :=
  ⟨every_step_answers, ⟨witness_StepRunsDecodedInstruction.2, by decide⟩,
    ⟨⟨by unfold State.runsInstr; decide +kernel, by decide, [0x00, 0x00], by decide +kernel⟩, by decide⟩,
    ⟨⟨by unfold State.runsInstr; decide +kernel, by decide, [0x00, 0x00], by decide +kernel⟩, by decide⟩,
    ⟨start_fetches_inc_a, by decide⟩, by decide, by decide⟩

theorem witness_RunUntilBudget :
    (10 ≤ (start []).cycles + 10 ∧ (start []).cycles < 10) ∧ (0 ≤ (start []).cycles + 0 ∧ 0 ≤ (start []).cycles) := by decide

/-- A state whose memories hold one byte each at both ends, for the bus map. -/
def landmarks : State :=
  let s := cartridge .none 2 0x2000
  { s with
    bank := { s.bank with ramEn := true }
    bootRom := some [(0, 0xB0), (255, 0xB1)]
    bootOff := false
    mem := { s.mem with
      rom := [(0, 0x10), (255, 0x11), (256, 0x12), (0x3FFF, 0x13), (0x4000, 0x14), (0x7FFF, 0x15)]
      vram := [(0, 0x20), (0x1FFF, 0x21)], eram := [(0, 0x30), (0x1FFF, 0x31)], wram := [(0, 0x40), (0x1DFF, 0x41), (0x1FFF, 0x42)]
      oam := [(0, 0x50), (159, 0x51)], hram := [(0, 0x60), (126, 0x61)] }
    pic := { s.pic with mode := .hblank }
    irq := { s.irq with ie := 0x77 } }

/-- The bus map at both ends of every region (20_memory.md R80, R90). -/
theorem witness_BusMap :
    ([0x0000, 0x00FF, 0x0100, 0x3FFF, 0x4000, 0x7FFF, 0x8000, 0x9FFF, 0xA000, 0xBFFF, 0xC000, 0xDFFF, 0xE000, 0xFDFF,
        0xFE00, 0xFE9F, 0xFF00, 0xFF7F, 0xFF80, 0xFFFE, 0xFFFF].map landmarks.busRead)
      = [0xB0, 0xB1, 0x12, 0x13, 0x14, 0x15, 0x20, 0x21, 0x30, 0x31, 0x40, 0x42, 0x40, 0x41,
        0x50, 0x51, 0xCF, 0xFF, 0x60, 0x61, 0x77] := by decide

/-- The overlay off, and the two blocked cases. -/
theorem witness_BusMap_cases :
    ((({ landmarks with bootOff := true } : State).busRead 0x0000 = 0x10)
      ∧ ({ landmarks with pic := { landmarks.pic with mode := .transfer } } : State).busRead 0x9FFF = 0xFF
      ∧ ({ landmarks with pic := { landmarks.pic with mode := .oamSearch } } : State).busRead 0xFE9F = 0xFF
      ∧ landmarks.busWrite 0xFEA0 0x12 = landmarks ∧ landmarks.busWrite 0xFEFF 0x12 = landmarks) := by decide

theorem landmarks_memOk : landmarks.MemOk := by
  refine ⟨by decide, fun m h => ?_⟩
  cases h
  decide

/-- External RAM present and enabled, at the ends of its window, and each of the other cases. -/
theorem witness_ExternalRam :
    landmarks.MemOk
      ∧ (landmarks.bank.mbc ≠ .mbc2 ∧ ¬ (landmarks.bank.mbc = .mbc3 ∧ 3 < landmarks.bank.ramSel.toNat)
          ∧ landmarks.bank.hasRam = true ∧ landmarks.bank.ramSize ≠ 0 ∧ landmarks.bank.ramEn = true)
      ∧ (landmarks.busWrite 0xBFFF 0x77).busRead 0xBFFF = 0x77 ∧ (landmarks.busWrite 0xA000 0x77).busRead 0xBFFF = 0x31
      ∧ ((cartridge .mbc2 16 0).bank.mbc = .mbc2 ∧ (cartridge .mbc2 16 0).bank.ramEn = false)
      ∧ ((cartridge .mbc2 16 0).busWrite 0x0000 0x0A).bank.ramEn = true
      ∧ 3 < ((cartridge .mbc3 16 0x2000).busWrite 0x4000 0x04).bank.ramSel.toNat := by
  refine ⟨landmarks_memOk, by decide, by decide, by decide, by decide, by decide, by decide⟩

/-- MBC1 commands at both ends of their ranges. -/
theorem witness_Mbc1 :
    (let s := cartridge .mbc1 64 0x8000
     s.bank.mbc = .mbc1 ∧ s.bank.lo5 ≠ 0 ∧ s.overlay = none ∧ s.bank.mode1 = false ∧ s.bank.hi2 = 0
      ∧ (s.busWrite 0x1FFF 0x0A).bank.ramEn = true ∧ (s.busWrite 0x2000 0xFF).bank.lo5 = 31
      ∧ (s.busWrite 0x3FFF 0x20).bank.lo5 = 1 ∧ (s.busWrite 0x4000 0x03).bank.hi2 = 3
      ∧ (s.busWrite 0x5FFF 0x02).bank.hi2 = 2 ∧ (s.busWrite 0x6000 0x01).bank.mode1 = true
      ∧ (s.busWrite 0x7FFF 0x01).bank.mode1 = true) := by decide

/-- The commands of the other mappers at both ends of their ranges. -/
theorem witness_OtherMappers :
    ((cartridge .none 2 0).bank.mbc = .none ∧ (cartridge .fallback 2 0).bank.mbc = .fallback)
      ∧ (let s := cartridge .mbc2 16 0
         s.bank.mbc = .mbc2 ∧ (s.busWrite 0x3EFF 0x0A).bank.ramEn = true ∧ (s.busWrite 0x0100 0x0F).bank.rom4 = 15
          ∧ (s.busWrite 0x3FFF 0x00).bank.rom4 = 1 ∧ s.busWrite 0x4000 0x0A = s)
      ∧ (let s := cartridge .mbc3 128 0x8000
         s.bank.mbc = .mbc3 ∧ (s.busWrite 0x1FFF 0x0A).bank.ramEn = true ∧ (s.busWrite 0x2000 0x80).bank.rom7 = 1
          ∧ (s.busWrite 0x3FFF 0x7F).bank.rom7 = 127 ∧ (s.busWrite 0x5FFF 0x03).bank.ramSel = 3 ∧ s.busWrite 0x6000 1 = s)
      ∧ (let s := cartridge .mbc5 512 0x20000
         s.bank.mbc = .mbc5 ∧ (s.busWrite 0x0000 0x0A).bank.ramEn = true ∧ (s.busWrite 0x2FFF 0x00).bank.rom9 = 0
          ∧ (s.busWrite 0x3000 0xFF).bank.rom9 = 0x101 ∧ (s.busWrite 0x5FFF 0x0F).bank.ram4 = 15
          ∧ s.busWrite 0x7FFF 1 = s) := by decide

theorem witness_OamDma : landmarks.MemOk := landmarks_memOk

/-- The timer with a count and an overflow due, and with neither. -/
theorem witness_TimerTick :
    (let s := start []
     let t := ({ s with timer := { sys := 16383, tima := 0xFF, tma := 0, tac := 4 } } : State)
     (t.timer.tac.getLsbD 2 = true ∧ (t.timer.sys.toNat + 1) % 256 = 0 ∧ t.timer.tima = 0xFF)
      ∧ ¬ (s.timer.tac.getLsbD 2 = true)) := by decide

theorem witness_TimerRate :
    (let s := start []
     let t := ({ s with timer := { sys := 3, tima := 0xFE, tma := 0, tac := 5 } } : State)
     t.timer.tac.getLsbD 2 = true
      ∧ t.timer.tima.toNat + ((t.timer.sys.toNat + 1) / timerPeriod t.timer.tac - t.timer.sys.toNat / timerPeriod t.timer.tac)
          ≤ 255) := by decide

/-- A key going down while selected, and one going down while not. -/
theorem witness_Joypad :
    (let s := start []
     (∃ i, i < 4 ∧ s.joy.last.getLsbD i = true ∧ (0xE : BitVec 4).getLsbD i = false)
      ∧ ∀ i, i < 4 → s.joy.last.getLsbD i = true) := ⟨⟨0, by decide⟩, by decide⟩

/-- A transfer with one M-cycle left, a whole one, and none. -/
theorem witness_SerialTransfer :
    (let s := start []
     let t := s.busWrite 0xFF02 0x81
     let u := ({ t with ser := { t.ser with count := 1 } } : State)
     1 < t.ser.count ∧ 1023 < t.ser.count ∧ s.ser.count = 0 ∧ u.ser.count = 1) := by decide

/-- The last M-cycle of a transfer requests interrupt 3, and the one before it does not. -/
theorem test_serial_end :
    (let t := (start []).busWrite 0xFF02 0x81
     let at' := fun (n : Nat) => (({ t with ser := { t.ser with count := n } } : State).serialTick)
     (at' 1).irq.iflag.getLsbD 3 && !(at' 2).irq.iflag.getLsbD 3 && !(at' 1).ser.start && (at' 2).ser.start) = true := by decide

theorem start_picOk : (start [0x3C]).PicOk := by
  unfold State.PicOk
  decide

theorem witness_FramePosition : (start [0x3C]).PicOk ∧ (start [0x3C]).pic.lcdc.getLsbD 7 = true := ⟨start_picOk, by decide⟩

/-- The last unit before VBlank, the unit before mode 0, and an ordinary one. -/
theorem witness_PictureInterrupts :
    ∀ s ∈ [onLine 143 113 .hblank 15 144, onLine 0 62 .transfer 15 9, onLine 153 113 .vblank 15 0, onLine 0 0 .oamSearch 0 9],
      s.pic.lcdc.getLsbD 7 = true ∧ s.pic.ly < 154 ∧ s.pic.u < 114 := by decide

/-- The display on, and off with the last M-cycle of a frame and another one to come. -/
theorem witness_DisplaySwitch :
    (let s := start []
     let t := s.busWrite 0xFF40 0x11
     s.pic.lcdc.getLsbD 7 = true ∧ t.pic.lcdc.getLsbD 7 = false ∧ t.pic.offCount ≠ 17555
      ∧ ({ t with pic := { t.pic with offCount := 17555 } } : State).pic.offCount = 17555) := by decide

theorem witness_LineDescriptors :
    ∀ s ∈ [onLine 0 19 .oamSearch 0 9, onLine 143 19 .oamSearch 0 9, onLine 143 113 .hblank 0 9, onLine 153 113 .vblank 0 9],
      s.pic.lcdc.getLsbD 7 = true ∧ s.pic.ly < 154 ∧ s.pic.u < 114 ∧ (s.pic.u = 19 ∨ s.pic.u = 113) := by decide

theorem witness_SoundPower :
    (start []).snd.power = true ∧ ((start []).busWrite 0xFF26 0x00).snd.power = false
      ∧ ((start []).busWrite 0xFF26 0x00).busWrite 0xFF10 0x7F = (start []).busWrite 0xFF26 0x00
      ∧ ((start []).busWrite 0xFF26 0x00).busWrite 0xFF25 0x7F = (start []).busWrite 0xFF26 0x00 := by decide

/-- A trigger that the sweep turns away and one that it does not. -/
theorem witness_SoundWrites :
    (start []).snd.power = true
      ∧ (let s := ((start []).busWrite 0xFF10 0x11).busWrite 0xFF13 0xFF
         (s.busWrite 0xFF14 0x87).snd.ch1.active = false ∧ (s.busWrite 0xFF14 0x80).snd.ch1.active = true) := by decide

/-- The frame sequencer about to step, at each step, and not about to. -/
theorem witness_FrameSequencer :
    (∀ k ∈ [0, 1, 2, 3, 4, 5, 6, 7],
      (let s := start []
       let n : Sound := { s.snd with fsCount := 2047, fsStep := k }
       n.power = true ∧ n.fsCount + 1 = 2048 ∧ n.fsStep = k))
      ∧ (start []).snd.fsCount + 1 ≠ 2048 ∧ ((start []).busWrite 0xFF26 0x00).snd.power = false := by decide

/-- An envelope and a sweep at the end of their timers, the sweep below and above 2047. -/
theorem witness_EnvelopeAndSweep :
    (Envelope.clock { vol := 15, timer := 1 } 0xF9 true 0 = { vol := 15, timer := 1 })
      ∧ (let n := (start []).snd
         let m : Nat → BitVec 11 → Sound := fun t f =>
          { n with nr10 := 0x11, sweep := { shadow := f, timer := t, en := true } }
         (m 1 0x400).sweepClock.sweep.shadow = 0x600 ∧ (m 1 0x7FF).sweepClock.ch1.active = false
          ∧ (m 2 0x400).sweepClock.sweep.timer = 1 ∧ (m 0 0x400).sweepClock = m 0 0x400) := by decide

/-- The M-cycle that hands a record over, and one that does not. -/
theorem witness_SampleRecords :
    (let s := start []
     let t := ({ s with snd := { s.snd with sampleCount := 31 } } : State)
     t.apuTick.snd.sampleCount = 0 ∧ t.apuTick.snd.samples.length = 1 ∧ s.apuTick.snd.sampleCount ≠ 0) := by decide

/-- A launch parameter with SAMPLE_PERIOD 1, and the same with a boot ROM. -/
def onePeriod : LaunchParams := { LaunchParams.default with samplePeriod := 1 }

/-- Its boot-ROM form. -/
def onePeriodBoot : LaunchParams := { onePeriod with bootRom := some (List.replicate 256 0) }

/-- A launch whose image has the mapper type `type` and the RAM size code `ram`. -/
def onePeriodWith (type ram : Byte) : LaunchParams :=
  { onePeriod with cart := List.replicate 0x147 0 ++ type :: 0 :: ram :: List.replicate 0x7EB6 0 }

/-- Every header is some launch's, and the two tables have rows and gaps. -/
theorem witness_LaunchState_header :
    (∀ t r : Byte, (∃ s, State.launch (onePeriodWith t r) = .ok s) ∧ cartByte (onePeriodWith t r).cart 0x147 = t
        ∧ cartByte (onePeriodWith t r).cart 0x149 = r)
      ∧ ((0x00, Mbc.none, false, false) ∈ headerTypes ∧ (0x1E, Mbc.mbc5, true, true) ∈ headerTypes
          ∧ ∀ row ∈ headerTypes, row.1 ≠ 0xFF)
      ∧ (0x05, 65536) ∈ headerRamSizes ∧ ∀ row ∈ headerRamSizes, row.1 ≠ 0x06 := by
  refine ⟨fun t r => ⟨⟨State.postBoot (onePeriodWith t r), ?_⟩, ?_, ?_⟩, by decide, by decide, by decide⟩
  · simp [State.launch, onePeriodWith, onePeriod, LaunchParams.default, cartByte, -List.reduceReplicate]
  · simp [onePeriodWith, cartByte, -List.reduceReplicate]
  · simp [onePeriodWith, cartByte, -List.reduceReplicate]

theorem witness_LaunchState :
    (∃ s, State.launch onePeriod = .ok s) ∧ (∃ s, State.launch onePeriodBoot = .ok s)
      ∧ onePeriod.bootRom = none ∧ onePeriodBoot.bootRom ≠ none := by
  refine ⟨⟨State.postBoot onePeriod, ?_⟩, ⟨State.powerOn onePeriodBoot (List.replicate 256 0), ?_⟩, rfl,
    Option.some_ne_none _⟩
  · simp [State.launch, onePeriod, LaunchParams.default, cartByte, -List.reduceReplicate]
  · simp [State.launch, onePeriodBoot, onePeriod, LaunchParams.default, cartByte, -List.reduceReplicate]

/-- A state that meets the invariant and is not the reset state, and its step. -/
theorem witness_StepKeepsInv : (start [0x3C]).Inv ∧ ∃ t, step (start [0x3C]) = .next t := by
  refine ⟨⟨⟨by decide, fun m h => by cases h⟩, start_picOk, ?_, ?_, ?_, ?_, ?_⟩, every_step_answers _⟩
  · unfold State.SndOk; decide
  · unfold State.DacOk; decide
  · unfold State.SerOk; decide
  · unfold State.CtlOk; decide
  · unfold State.BankOk; decide

theorem witness_FixedPartKept :
    (∃ t, step landmarks = .next t) ∧ (∃ a, landmarks.hostAct .takeLines = landmarks.hostAct a)
      ∧ (start []).bootOff = true := ⟨every_step_answers _, ⟨_, rfl⟩, by decide⟩

theorem witness_ReachableMeetsInv : ∃ s, Reachable s := by
  obtain ⟨s, h⟩ := witness_LaunchState.1
  exact ⟨s, .launch h⟩
end

section
/-! PROOFS. The fixed part of a launch (00_scope.md R11): no operation of a step and no host action changes it. -/

namespace Sys2Proof.Machine

/-! #### The fixed part under each operation -/

/-- `t` has the fixed part of `s`, and a boot overlay that is off in `s` is off in `t` (10_state.md R77). -/
def FixedKept (s t : State) : Prop := t.fixed = s.fixed ∧ (s.bootOff = true → t.bootOff = true)

theorem FixedKept.refl (s : State) : FixedKept s s := ⟨rfl, id⟩

theorem FixedKept.trans {s t u : State} (h1 : FixedKept s t) (h2 : FixedKept t u) : FixedKept s u :=
  ⟨h2.1.trans h1.1, fun h => h2.2 (h1.2 h)⟩

/-- A state with the same latch and the same fixed part. -/
theorem FixedKept.of_eq {s t : State} (hf : t.fixed = s.fixed) (hb : t.bootOff = s.bootOff) : FixedKept s t :=
  ⟨hf, hb.trans⟩

/-- No register write turns the overlay on again: a write to BOOT sets the latch or does nothing. -/
theorem State.writeReg_bootOff_mono {s : State} (h : s.bootOff = true) (r : IoReg) (v : Byte) :
    (s.writeReg r v).bootOff = true := by
  refine State.writeReg_cases (P := fun t => t.bootOff = true) s r v ?p1 ?sc ?lcdc ?dma h ?ser ?timer h ?sound h ?wave
    ?pic rfl
  case p1 | sc | lcdc | dma => intro _; simpa using h
  case ser | timer | sound | wave | pic => intros; exact h

theorem State.ioWrite_bootOff_mono {s : State} (h : s.bootOff = true) (off : Nat) (v : Byte) :
    (s.ioWrite off v).bootOff = true := by
  unfold State.ioWrite
  split
  · exact State.writeReg_bootOff_mono h _ v
  · exact h

theorem State.busWrite_bootOff_mono {s : State} (h : s.bootOff = true) (a : Word) (v : Byte) :
    (s.busWrite a v).bootOff = true := by
  refine State.busWrite_cases (P := fun t => t.bootOff = true) s a v ?rom ?vram ?same ?ext ?wram ?oam ?io ?hram ?ie
  case ext => intro _ _; simpa using h
  case io => intro _ _; exact State.ioWrite_bootOff_mono h _ v
  case rom | vram | same | wram | oam | hram | ie => intros; exact h

theorem FixedKept.busWrite (s : State) (a : Word) (v : Byte) : FixedKept s (s.busWrite a v) := by
  obtain ⟨-, -, hfixed, -, -⟩ := s.busWrite_control a v
  exact ⟨hfixed, fun h => State.busWrite_bootOff_mono h a v⟩

theorem FixedKept.advance (s : State) (n : Nat) : FixedKept s (s.advance n) :=
  .of_eq (by simp [State.fixed]) (by simp)

theorem FixedKept.joypadCheck (s : State) : FixedKept s s.joypadCheck :=
  .of_eq (by simp [State.fixed]) (by simp)

theorem FixedKept.hostAct (s : State) (a : HostAction) : FixedKept s (s.hostAct a) := by
  cases a with
  | setKeys buttons dirs => exact FixedKept.joypadCheck { s with joy := { s.joy with buttons := buttons, dirs := dirs } }
  | clearFrameDone => exact .of_eq rfl rfl
  | takeLines => exact .of_eq rfl rfl
  | takeSamples => exact .of_eq rfl rfl

/-- Of all that a step does, only a bus write comes near the fixed part; the rest writes other fields. -/
theorem FixedKept.of_step {s t : State} (h : step s = .next t) : FixedKept s t :=
  step_keeps h (FixedKept.refl s)
    (regs := fun _ _ ht => ht)
    (ctl := fun _ _ ht _ _ => ht)
    (write := fun t a v ht => ht.trans (FixedKept.busWrite t a v))
    (divider := fun _ ht => ht)
    (ack := fun _ _ ht => ht)
    (advance := fun t n ht => ht.trans (FixedKept.advance t n))

/-- Settles O59: by the things a step can do (`step_keeps`) and the four host actions. -/
theorem fixedPartKept : Obligations.FixedPartKept := by
  unfold Obligations.FixedPartKept
  rintro s t (h | ⟨a, rfl⟩)
  · exact FixedKept.of_step h
  · exact FixedKept.hostAct s a

end Sys2Proof.Machine
end

section
/-! PROOFS. The stack as memory (00_scope.md R15): what `Push16` stores, `Pop16` reads back, and a pair that is written from a
popped word holds it. -/

namespace Sys2Proof.Machine

/-! #### The pairs of `rp2[.]` -/

/-- A word that 16 divides has its bits 3-0 clear. -/
theorem getElem_eq_false_of_mod_sixteen {v : Word} (h : v.toNat % 16 = 0) {i : Nat} (hi : i < 4) : v[i] = false := by
  obtain ⟨k, hk⟩ : 2 ^ 4 ∣ v.toNat := Nat.dvd_of_mod_eq_zero h
  rw [BitVec.getElem_eq_testBit_toNat, hk, Nat.testBit_two_pow_mul]
  simp [hi]

/-- F after POP AF is the low byte of the word, where that byte's bits 3-0 are 0 (10_state.md R32). -/
theorem State.f_setAf (s : State) {v : Word} (h : v.toNat % 16 = 0) : (s.setAf v).f = v.lo := by
  have hlow {i : Nat} (hi : i < 4) : v[i] = false := getElem_eq_false_of_mod_sixteen h hi
  refine BitVec.eq_of_getLsbD_eq fun i hi => ?_
  simp only [State.f, State.setAf, Word.lo, BitVec.getLsbD_append, BitVec.getLsbD_extractLsb']
  interval_cases i <;> simp [hlow]

/-- A pair holds the word written to it; AF only a word whose bits 3-0 are 0. -/
theorem State.stackReg_setStackReg (s : State) (p : StackReg) {v : Word} (h : p = .af → v.toNat % 16 = 0) :
    (s.setStackReg p v).stackReg p = v := by
  cases p with
  | bc => exact Word.ofBytes_hi_lo v
  | de => exact Word.ofBytes_hi_lo v
  | hl => exact Word.ofBytes_hi_lo v
  | af =>
    have hf : (s.setAf v).f = v.lo := s.f_setAf (h rfl)
    calc (s.setAf v).stackReg .af = Word.ofBytes v.hi (s.setAf v).f := rfl
      _ = v := by rw [hf, Word.ofBytes_hi_lo]

theorem State.setStackReg_sp (s : State) (p : StackReg) (v : Word) : (s.setStackReg p v).regs.sp = s.regs.sp := by
  cases p <;> rfl

/-! #### A push and the bytes it leaves -/

theorem plainAddr_of_ramAddr {a : Word} (h : ramAddr a) : plainAddr a := by
  unfold ramAddr at h
  unfold plainAddr
  omega

/-- Two neighbouring addresses are two bytes where memory never blocks: the echo repeats only after 0x2000 (20_memory.md R82). -/
theorem State.not_mirrors_succ (s : State) {a : Word} (h : ramAddr a) : ¬ s.mirrors a (a + 1) := by
  have hsucc : (a + 1).toNat = (a.toNat + 1) % 65536 := by simp [BitVec.toNat_add]
  unfold ramAddr at h
  rintro (heq | ⟨_, _, _, _, _⟩ | ⟨_, _, _, _, _⟩)
  · have := congrArg BitVec.toNat heq
    omega
  · omega
  · omega

/-- A store keeps the canonical form, whatever the form then does to the register file. -/
theorem Stores.memOk {s t : State} {a : Word} {v : Byte} (h : Stores s t a v) (hm : s.MemOk) : t.MemOk := by
  have hw : ({ t with regs := s.regs } : State).MemOk := h.write ▸ hm.busWrite a v
  exact hw

/-- Two bytes stored at neighbouring addresses that never block, the upper one first, both read back. -/
theorem StoresTwo.readBack {s t : State} {a : Word} {hi lo : Byte} (h : StoresTwo s t (a + 1) hi a lo) (hm : s.MemOk)
    (hlo : ramAddr a) (hhi : ramAddr (a + 1)) : t.busRead (a + 1) = hi ∧ t.busRead a = lo := by
  obtain ⟨u, -, h1, h2⟩ := h
  obtain ⟨-, -, -, hothers⟩ := h2.others (plainAddr_of_ramAddr hlo)
  have hkeep : t.busRead (a + 1) = u.busRead (a + 1) := hothers _ (u.not_mirrors_succ hlo)
  exact ⟨hkeep.trans (h1.readBack hm hhi), h2.readBack (h1.memOk hm) hlo⟩

theorem State.push16_sp (s : State) (v : Word) : (s.push16 v).regs.sp = s.regs.sp - 2 := by
  obtain ⟨hregs, -⟩ := s.push16_pushes' v
  rw [hregs]

/-- THE WORD PUSHED IS ON TOP OF THE STACK, where the stack lies in memory that never blocks (00_scope.md R15). -/
theorem State.topWord_push16 {s : State} (hm : s.MemOk) (hhi : ramAddr (s.regs.sp - 1)) (hlo : ramAddr (s.regs.sp - 2))
    (v : Word) : (s.push16 v).topWord = v := by
  obtain ⟨-, hstores⟩ := s.push16_pushes' v
  have hsucc : s.regs.sp - 1 = s.regs.sp - 2 + 1 := by bv_omega
  rw [hsucc] at hstores hhi
  obtain ⟨hreadHi, hreadLo⟩ := hstores.readBack hm hlo hhi
  rw [State.topWord, State.push16_sp, hreadHi, hreadLo, Word.ofBytes_hi_lo]

/-! #### PUSH and POP -/

theorem exec_push (q : StackReg) (s : State) : exec (.push q) s = .next (s.push16 (s.stackReg q)) := by
  cases q <;> rfl

theorem exec_pop (p : StackReg) (s : State) : exec (.pop p) s = .next (s.popTo p) := by
  cases p <;> rfl

/-- The pair that POP fills holds the word on top of the stack. -/
theorem State.stackReg_popTo (s : State) (p : StackReg) (h : p = .af → s.topWord.toNat % 16 = 0) :
    (s.popTo p).stackReg p = s.topWord := State.stackReg_setStackReg _ p h

theorem State.popTo_sp (s : State) (p : StackReg) : (s.popTo p).regs.sp = s.regs.sp + 2 :=
  State.setStackReg_sp _ p _

/-- Settles O11: the word pushed is on top of the stack (`State.topWord_push16`), and POP moves that word and SP back. -/
theorem pushThenPop : Obligations.PushThenPop := by
  unfold Obligations.PushThenPop
  intro s q p hm hhi hlo haf
  have htop : (s.push16 (s.stackReg q)).topWord = s.stackReg q := State.topWord_push16 hm hhi hlo _
  refine ⟨_, _, exec_push q s, exec_pop p _, ?word, ?sp⟩
  case word =>
    rw [State.stackReg_popTo _ p (by rw [htop]; exact haf), htop]
  case sp =>
    rw [State.popTo_sp, State.push16_sp]
    bv_omega

end Sys2Proof.Machine
end

section
/-! PROOFS. The invariant of the machine (`State.Inv`) under each thing a step can do. -/

namespace Sys2Proof.Machine

/-- The invariant from its four groups: the memories, the units' ranges, the CPU control and the bank fields. -/
theorem State.inv_iff (s : State) : s.Inv ↔ s.MemOk ∧ s.UnitsOk ∧ s.CtlOk ∧ s.BankOk := by
  constructor
  · rintro ⟨hmem, hpic, hsnd, hdac, hser, hctl, hbank⟩
    exact ⟨hmem, ⟨hpic, ⟨hsnd, hdac⟩, hser⟩, hctl, hbank⟩
  · rintro ⟨hmem, ⟨hpic, ⟨hsnd, hdac⟩, hser⟩, hctl, hbank⟩
    exact ⟨hmem, hpic, hsnd, hdac, hser, hctl, hbank⟩

theorem State.CtlOk.of_eq {s t : State} (h : s.CtlOk) (hc : t.ctl = s.ctl) (hb : t.haltBug = s.haltBug) : t.CtlOk := by
  unfold State.CtlOk at *
  rw [hc, hb]
  exact h

/-- A control update that repeats a byte only where one was repeated, or on a machine with the HALT bug (10_state.md R45). -/
theorem State.Inv.with_ctl {s : State} (h : s.Inv) {c : Control}
    (hc : c.haltbugPending = true → s.ctl.haltbugPending = true ∨ s.haltBug = true) : ({ s with ctl := c } : State).Inv := by
  obtain ⟨hmem, hunits, hctl, hbank⟩ := s.inv_iff.1 h
  have hctl' : ({ s with ctl := c } : State).CtlOk := fun hp => (hc hp).elim hctl id
  exact (State.inv_iff _).2 ⟨hmem, hunits, hctl', hbank⟩

theorem State.Inv.busWrite {s : State} (h : s.Inv) (a : Word) (v : Byte) : (s.busWrite a v).Inv := by
  obtain ⟨hmem, hunits, hctl, hbank⟩ := s.inv_iff.1 h
  exact (State.inv_iff _).2 ⟨hmem.busWrite a v, hunits.busWrite a v, hctl.of_eq (by simp) (by simp), hbank.busWrite a v⟩

/-- The devices change their own units only, and every unit stays in its ranges (60_exceptions.md R505). -/
theorem State.Inv.advance {s : State} (h : s.Inv) (n : Nat) : (s.advance n).Inv := by
  obtain ⟨hmem, hunits, hctl, hbank⟩ := s.inv_iff.1 h
  have hunits' : (s.advance n).UnitsOk := State.UnitsOk.ticks (s := { s with cycles := s.cycles + n }) hunits n
  have hbank' : (s.advance n).BankOk := by
    unfold State.BankOk
    rw [State.advance_bank]
    exact hbank
  exact (State.inv_iff _).2
    ⟨hmem.of_eq (by simp) (by simp) (by simp) (by simp), hunits', hctl.of_eq (by simp) (by simp), hbank'⟩

/-- Settles O58: by the things a step can do (`step_keeps`). The register file, the divider and an IF bit are no part of the
invariant; a control update, a bus write and the devices' M-cycles each keep it. -/
theorem stepKeepsInv : Obligations.StepKeepsInv := by
  unfold Obligations.StepKeepsInv
  intro s t hs h
  exact step_keeps h hs
    (regs := fun _ _ ht => ht)
    (ctl := fun _ _ ht _ hbug => ht.with_ctl hbug)
    (write := fun _ a v ht => ht.busWrite a v)
    (divider := fun _ ht => ht)
    (ack := fun _ _ ht => ht)
    (advance := fun _ n ht => ht.advance n)

end Sys2Proof.Machine
end

section
/-! PROOFS. The I/O block (10_state.md R78, 20_memory.md R92, R93): the register at each offset, the byte it reads, and what
a write to it stores. -/

namespace Sys2Proof.Machine

/-! #### The register at an offset -/

theorem soundRegAt_lt {k : Nat} {r : SoundReg} (h : soundRegAt k = some r) : k < 128 := by
  unfold soundRegAt at h
  split at h <;> cases h <;> decide

theorem plainRegAt_lt {k : Nat} {r : IoReg} (h : plainRegAt k = some r) : k < 128 := by
  unfold plainRegAt at h
  split at h <;> cases h <;> decide

/-- Every register lies in the block. -/
theorem ioRegAt_lt {k : Nat} {r : IoReg} (h : ioRegAt k = some r) : k < 128 := by
  unfold ioRegAt at h
  split at h
  next hwave => omega
  next =>
    split at h
    next hsound => exact soundRegAt_lt hsound
    next => exact plainRegAt_lt h

theorem ioRegAt_wave_offset {k : Nat} (hk : k < 16) : ioRegAt (0x30 + k) = some (.wave k) := by
  have hrange : 0x30 ≤ 0x30 + k ∧ 0x30 + k ≤ 0x3F := by omega
  rw [ioRegAt, if_pos hrange, Nat.add_sub_cancel_left]

/-- The unmapped offsets (R78). -/
theorem ioRegAt_unmapped : ∀ k, k < 128 → k = 0x03 ∨ (0x08 ≤ k ∧ k ≤ 0x0E) ∨ k = 0x15 ∨ k = 0x1F
    ∨ (0x27 ≤ k ∧ k ≤ 0x2F) ∨ (0x4C ≤ k ∧ k ≤ 0x4F) ∨ 0x51 ≤ k → ioRegAt k = none := by decide

/-! #### A bus access of the block -/

theorem ioAddr_toNat {k : Nat} (hk : k < 128) : (BitVec.ofNat 16 (0xFF00 + k)).toNat = 0xFF00 + k := by
  rw [BitVec.toNat_ofNat]
  omega

theorem State.busRead_ioAddr (s : State) {k : Nat} (hk : k < 128) : s.busRead (BitVec.ofNat 16 (0xFF00 + k)) = s.ioRead k := by
  have ha := ioAddr_toNat hk
  rw [State.busRead_io (by omega) (by omega), ha, Nat.add_sub_cancel_left]

theorem State.busWrite_ioAddr (s : State) {k : Nat} (hk : k < 128) (v : Byte) :
    s.busWrite (BitVec.ofNat 16 (0xFF00 + k)) v = s.ioWrite k v := by
  have ha := ioAddr_toNat hk
  rw [State.busWrite_io (by omega) (by omega), ha, Nat.add_sub_cancel_left]

/-- A mapped register reads what `State.readReg` says. -/
theorem State.busRead_reg (s : State) (r : IoReg) {k : Nat} (hr : ioRegAt k = some r) :
    s.busRead (BitVec.ofNat 16 (0xFF00 + k)) = s.readReg r := by
  rw [s.busRead_ioAddr (ioRegAt_lt hr), State.ioRead, hr]

/-- A write to a mapped register does what `State.writeReg` says. -/
theorem State.busWrite_reg (s : State) (r : IoReg) (v : Byte) {k : Nat} (hr : ioRegAt k = some r) :
    s.busWrite (BitVec.ofNat 16 (0xFF00 + k)) v = s.writeReg r v := by
  rw [s.busWrite_ioAddr (ioRegAt_lt hr), State.ioWrite, hr]

/-! #### The composed bytes -/

theorem Joypad.read_eq (j : Joypad) :
    j.read = (0xC0 : Byte) ||| (j.sel.setWidth 8 <<< 4) ||| j.low.setWidth 8 := by
  have h : ∀ (x : BitVec 2) (y : BitVec 4),
      (3 : BitVec 2) ++ x ++ y = (0xC0 : Byte) ||| (x.setWidth 8 <<< 4) ||| y.setWidth 8 := by decide
  exact h j.sel j.low

theorem State.readReg_sc (s : State) :
    s.readReg .sc = 0x7E ||| (if s.ser.start then 0x80 else 0) ||| (if s.ser.clock then 0x01 else 0) := by
  have h : ∀ x y : Bool, BitVec.ofBool x ++ (0x3F : BitVec 6) ++ BitVec.ofBool y
      = 0x7E ||| (if x then 0x80 else 0) ||| (if y then 0x01 else 0) := by decide
  exact h s.ser.start s.ser.clock

theorem State.readReg_tac (s : State) : s.readReg .tac = (0xF8 : Byte) ||| s.timer.tac.setWidth 8 := by
  have h : ∀ x : BitVec 3, (0x1F : BitVec 5) ++ x = (0xF8 : Byte) ||| x.setWidth 8 := by decide
  exact h s.timer.tac

theorem State.readReg_iflag (s : State) : s.readReg .iflag = (0xE0 : Byte) ||| s.irq.iflag.setWidth 8 := by
  have h : ∀ x : BitVec 5, (7 : BitVec 3) ++ x = (0xE0 : Byte) ||| x.setWidth 8 := by decide
  exact h s.irq.iflag

theorem Sound.readNr52_eq (n : Sound) :
    n.readNr52 = 0x70 ||| (if n.power then 0x80 else 0)
      ||| (if n.ch1.active then 0x01 else 0) ||| (if n.ch2.active then 0x02 else 0)
      ||| (if n.ch3.active then 0x04 else 0) ||| (if n.ch4.active then 0x08 else 0) := by
  have h : ∀ p c1 c2 c3 c4 : Bool, BitVec.ofBool p ++ (7 : BitVec 3) ++ BitVec.ofBool c4 ++ BitVec.ofBool c3
        ++ BitVec.ofBool c2 ++ BitVec.ofBool c1
      = 0x70 ||| (if p then 0x80 else 0) ||| (if c1 then 0x01 else 0) ||| (if c2 then 0x02 else 0)
        ||| (if c3 then 0x04 else 0) ||| (if c4 then 0x08 else 0) := by decide
  exact h n.power n.ch1.active n.ch2.active n.ch3.active n.ch4.active

theorem State.readStat_eq (s : State) :
    s.readStat = (0x80 : Byte) ||| (s.pic.statEn.setWidth 8 <<< 3) ||| (if s.pic.coinc then 0x04 else 0)
      ||| s.pic.mode.code.setWidth 8 := by
  have h : ∀ (x : BitVec 4) (c : Bool) (m : BitVec 2), (1 : BitVec 1) ++ x ++ BitVec.ofBool c ++ m
      = (0x80 : Byte) ||| (x.setWidth 8 <<< 3) ||| (if c then 0x04 else 0) ||| m.setWidth 8 := by decide
  exact h s.pic.statEn s.pic.coinc s.pic.mode.code

/-- A sound register with no readable bit (NR13, NR23, NR31, NR33, NR41). -/
theorem State.readReg_hidden (s : State) {r : SoundReg} (h : r.mask = 0xFF) : s.readReg (.sound r) = 0xFF := by
  have hall : s.snd.get r ||| BitVec.allOnes 8 = BitVec.allOnes 8 := BitVec.or_allOnes
  simp only [State.readReg, h]
  exact hall

/-- A sound register that reads as it is stored. -/
theorem State.readReg_plainSound (s : State) {r : SoundReg} (h : r.mask = 0x00) : s.readReg (.sound r) = s.snd.get r := by
  simp only [State.readReg, h]
  exact BitVec.or_zero

/-- Settles O37: the register at each offset and the byte it reads. -/
theorem ioReads : Obligations.IoReads := by
  unfold Obligations.IoReads
  intro s
  refine ⟨?p1, s.busRead_reg .sb (k := 0x01) rfl, ?sc, s.busRead_reg .div (k := 0x04) rfl,
    s.busRead_reg .tima (k := 0x05) rfl, s.busRead_reg .tma (k := 0x06) rfl, ?tac, ?iflag,
    s.busRead_reg (.sound .nr10) (k := 0x10) rfl, s.busRead_reg (.sound .nr11) (k := 0x11) rfl,
    ?nr12, ?nr13, s.busRead_reg (.sound .nr14) (k := 0x14) rfl, s.busRead_reg (.sound .nr21) (k := 0x16) rfl,
    ?nr22, ?nr23, s.busRead_reg (.sound .nr24) (k := 0x19) rfl, s.busRead_reg (.sound .nr30) (k := 0x1A) rfl,
    ?nr31, s.busRead_reg (.sound .nr32) (k := 0x1C) rfl, ?nr33, s.busRead_reg (.sound .nr34) (k := 0x1E) rfl,
    ?nr41, ?nr42, ?nr43, s.busRead_reg (.sound .nr44) (k := 0x23) rfl, ?nr50, ?nr51, ?nr52,
    fun k hk => ?wave, s.busRead_reg .lcdc (k := 0x40) rfl, ?stat, s.busRead_reg .scy (k := 0x42) rfl,
    s.busRead_reg .scx (k := 0x43) rfl, s.busRead_reg .ly (k := 0x44) rfl, s.busRead_reg .lyc (k := 0x45) rfl,
    s.busRead_reg .dma (k := 0x46) rfl, s.busRead_reg .bgp (k := 0x47) rfl, s.busRead_reg .obp0 (k := 0x48) rfl,
    s.busRead_reg .obp1 (k := 0x49) rfl, s.busRead_reg .wy (k := 0x4A) rfl, s.busRead_reg .wx (k := 0x4B) rfl,
    s.busRead_reg .boot (k := 0x50) rfl, fun k hk hgap => ?unmapped⟩
  case p1 => exact (s.busRead_reg .p1 (k := 0x00) rfl).trans s.joy.read_eq
  case sc => exact (s.busRead_reg .sc (k := 0x02) rfl).trans s.readReg_sc
  case tac => exact (s.busRead_reg .tac (k := 0x07) rfl).trans s.readReg_tac
  case iflag => exact (s.busRead_reg .iflag (k := 0x0F) rfl).trans s.readReg_iflag
  case nr12 => exact (s.busRead_reg (.sound .nr12) (k := 0x12) rfl).trans (s.readReg_plainSound rfl)
  case nr13 => exact (s.busRead_reg (.sound .nr13) (k := 0x13) rfl).trans (s.readReg_hidden rfl)
  case nr22 => exact (s.busRead_reg (.sound .nr22) (k := 0x17) rfl).trans (s.readReg_plainSound rfl)
  case nr23 => exact (s.busRead_reg (.sound .nr23) (k := 0x18) rfl).trans (s.readReg_hidden rfl)
  case nr31 => exact (s.busRead_reg (.sound .nr31) (k := 0x1B) rfl).trans (s.readReg_hidden rfl)
  case nr33 => exact (s.busRead_reg (.sound .nr33) (k := 0x1D) rfl).trans (s.readReg_hidden rfl)
  case nr41 => exact (s.busRead_reg (.sound .nr41) (k := 0x20) rfl).trans (s.readReg_hidden rfl)
  case nr42 => exact (s.busRead_reg (.sound .nr42) (k := 0x21) rfl).trans (s.readReg_plainSound rfl)
  case nr43 => exact (s.busRead_reg (.sound .nr43) (k := 0x22) rfl).trans (s.readReg_plainSound rfl)
  case nr50 => exact (s.busRead_reg (.sound .nr50) (k := 0x24) rfl).trans (s.readReg_plainSound rfl)
  case nr51 => exact (s.busRead_reg (.sound .nr51) (k := 0x25) rfl).trans (s.readReg_plainSound rfl)
  case nr52 => exact (s.busRead_reg .nr52 (k := 0x26) rfl).trans s.snd.readNr52_eq
  case wave =>
    have hread := s.busRead_reg (.wave k) (ioRegAt_wave_offset hk)
    rw [← Nat.add_assoc] at hread
    exact hread
  case stat =>
    refine (s.busRead_reg .stat (k := 0x41) rfl).trans (s.readStat_eq.trans ?_)
    cases s.pic.mode <;> rfl
  case unmapped => rw [s.busRead_ioAddr hk, State.ioRead, ioRegAt_unmapped k hk hgap]

/-- STAT stores bits 6-3 (10_state.md R61). -/
theorem extractLsb'_three_eq_setWidth_shift (v : Byte) : v.extractLsb' 3 4 = (v >>> 3).setWidth 4 :=
  BitVec.eq_of_toNat_eq rfl

/-- Settles O38: the register at each offset and what a write to it stores. -/
theorem ioWrites : Obligations.IoWrites := by
  unfold Obligations.IoWrites
  intro s v
  refine ⟨s.busWrite_reg .sb v (k := 0x01) rfl, s.busWrite_reg .div v (k := 0x04) rfl, s.busWrite_reg .tima v (k := 0x05) rfl,
    s.busWrite_reg .tma v (k := 0x06) rfl, ?tac, ?iflag, ?stat, s.busWrite_reg .scy v (k := 0x42) rfl,
    s.busWrite_reg .scx v (k := 0x43) rfl, s.busWrite_reg .ly v (k := 0x44) rfl, s.busWrite_reg .lyc v (k := 0x45) rfl,
    s.busWrite_reg .bgp v (k := 0x47) rfl, s.busWrite_reg .obp0 v (k := 0x48) rfl, s.busWrite_reg .obp1 v (k := 0x49) rfl,
    s.busWrite_reg .wy v (k := 0x4A) rfl, s.busWrite_reg .wx v (k := 0x4B) rfl, s.busWrite_reg .boot v (k := 0x50) rfl,
    fun k hk => ?wave, fun k hk hgap => ?unmapped⟩
  case tac =>
    rw [BitVec.setWidth_eq_extractLsb' (by omega)]
    exact s.busWrite_reg .tac v (k := 0x07) rfl
  case iflag =>
    rw [BitVec.setWidth_eq_extractLsb' (by omega)]
    exact s.busWrite_reg .iflag v (k := 0x0F) rfl
  case stat =>
    rw [← extractLsb'_three_eq_setWidth_shift]
    exact s.busWrite_reg .stat v (k := 0x41) rfl
  case wave =>
    have hwrite := s.busWrite_reg (.wave k) v (ioRegAt_wave_offset hk)
    rw [← Nat.add_assoc] at hwrite
    exact hwrite
  case unmapped => rw [s.busWrite_ioAddr hk, State.ioWrite, ioRegAt_unmapped k hk hgap]

end Sys2Proof.Machine
end

section
/-! PROOFS. The bus map (20_memory.md R82, R90, R91, R94): which memory answers a read of each region, where a write is read
back, and OAM DMA (R140). -/

namespace Sys2Proof.Machine

/-! #### The boot overlay and the ROM windows -/

theorem State.overlay_eq_some {s : State} {boot : Store} (hrom : s.bootRom = some boot) (hoff : s.bootOff = false) :
    s.overlay = some boot := by
  simp [State.overlay, hrom, hoff]

theorem State.overlay_eq_none {s : State} (h : s.bootRom = none ∨ s.bootOff = true) : s.overlay = none := by
  rcases h with h | h <;> simp [State.overlay, h]

theorem State.busRead_overlay {s : State} {boot : Store} (h : s.overlay = some boot) {a : Word} (ha : a.toNat ≤ 0xFF) :
    s.busRead a = boot.read a.toNat := by
  have hlow : a.toNat ≤ 0x3FFF := by omega
  unfold State.busRead State.readWith
  dsimp only
  rw [if_pos hlow, h]
  exact if_pos ha

theorem State.busRead_rom0 {s : State} {a : Word} (ha : a.toNat ≤ 0x3FFF) (h : 0xFF < a.toNat ∨ s.overlay = none) :
    s.busRead a = s.romRead s.bank.bank0 a.toNat := by
  unfold State.busRead State.readWith
  dsimp only
  rw [if_pos ha]
  split
  next boot hsome =>
    have habove : 0xFF < a.toNat := h.resolve_right (by simp [hsome])
    exact if_neg (by omega)
  next => rfl

theorem State.busRead_romN {s : State} {a : Word} (h1 : 0x4000 ≤ a.toNat) (h2 : a.toNat ≤ 0x7FFF) :
    s.busRead a = s.romRead s.bank.bankN (a.toNat - 0x4000) := by
  unfold State.busRead State.readWith
  dsimp only
  rw [if_neg (by omega), if_pos h2]

/-! #### Unblocked reads -/

theorem State.rawRead_vram {s : State} {a : Word} (h1 : 0x8000 ≤ a.toNat) (h2 : a.toNat ≤ 0x9FFF) :
    s.rawRead a = s.mem.vram.read (a.toNat - 0x8000) := by
  unfold State.rawRead State.readWith
  dsimp only
  repeat rw [if_neg (by omega)]
  rw [if_pos h2]
  rfl

theorem State.rawRead_oam {s : State} {a : Word} (h1 : 0xFE00 ≤ a.toNat) (h2 : a.toNat ≤ 0xFE9F) :
    s.rawRead a = s.mem.oam.read (a.toNat - 0xFE00) := by
  unfold State.rawRead State.readWith
  dsimp only
  repeat rw [if_neg (by omega)]
  rw [if_pos h2]
  rfl

/-- Blocking is a matter of VRAM and OAM only. -/
theorem State.rawRead_eq_busRead {s : State} {a : Word} (hv : ¬ (0x8000 ≤ a.toNat ∧ a.toNat ≤ 0x9FFF))
    (ho : ¬ (0xFE00 ≤ a.toNat ∧ a.toNat ≤ 0xFE9F)) : s.rawRead a = s.busRead a := by
  unfold State.rawRead State.busRead State.readWith
  dsimp only
  refine ite_congr rfl (fun _ => rfl) fun _ => ite_congr rfl (fun _ => rfl) fun _ => ite_congr rfl (fun _ => ?vram) fun _ =>
    ite_congr rfl (fun _ => rfl) fun _ => ite_congr rfl (fun _ => rfl) fun _ => ite_congr rfl (fun _ => rfl) fun _ =>
    ite_congr rfl (fun _ => ?oam) fun _ => rfl
  case vram => exact absurd ⟨by omega, by omega⟩ hv
  case oam => exact absurd ⟨by omega, by omega⟩ ho

/-! #### Blocking -/

theorem State.vramBlocked_iff (s : State) :
    s.vramBlocked = true ↔ s.pic.lcdc.getLsbD 7 = true ∧ s.pic.mode = .transfer := by
  simp [State.vramBlocked, State.displayOn]

theorem State.oamBlocked_iff (s : State) :
    s.oamBlocked = true ↔ s.pic.lcdc.getLsbD 7 = true ∧ (s.pic.mode = .oamSearch ∨ s.pic.mode = .transfer) := by
  simp [State.oamBlocked, State.displayOn]

theorem State.busWrite_vram_readBack {s : State} (hm : s.MemOk) (hb : s.vramBlocked = false) {a : Word}
    (h1 : 0x8000 ≤ a.toNat) (h2 : a.toNat ≤ 0x9FFF) (v : Byte) : (s.busWrite a v).busRead a = v := by
  rw [State.busWrite_vram h1 h2, hb, State.busRead_vram h1 h2]
  have hb' : ({ s with mem := { s.mem with vram := s.mem.vram.write (a.toNat - 0x8000) v } } : State).vramBlocked = false := hb
  simp only [Bool.false_eq_true, if_false, hb']
  exact Store.read_write_same_of_wf hm.vram _ _

theorem State.busWrite_oam_readBack {s : State} (hm : s.MemOk) (hb : s.oamBlocked = false) {a : Word}
    (h1 : 0xFE00 ≤ a.toNat) (h2 : a.toNat ≤ 0xFE9F) (v : Byte) : (s.busWrite a v).busRead a = v := by
  rw [State.busWrite_oam h1 h2, hb, State.busRead_oam h1 h2]
  have hb' : ({ s with mem := { s.mem with oam := s.mem.oam.write (a.toNat - 0xFE00) v } } : State).oamBlocked = false := hb
  simp only [Bool.false_eq_true, if_false, hb']
  exact Store.read_write_same_of_wf hm.oam _ _

/-! #### The echo -/

theorem echo_toNat {a : Word} (h : 0xE000 ≤ a.toNat) : (a - 0x2000).toNat = a.toNat - 0x2000 := by
  bv_omega

/-- The echo is WRAM, for reads and for writes (20_memory.md R82). -/
theorem State.busRead_echo {s : State} {a : Word} (h1 : 0xE000 ≤ a.toNat) (h2 : a.toNat ≤ 0xFDFF) :
    s.busRead a = s.busRead (a - 0x2000) := by
  have hsub := echo_toNat h1
  have hoff : (a.toNat - 0xC000) % 0x2000 = (a.toNat - 0x2000 - 0xC000) % 0x2000 := by omega
  rw [State.busRead_wram (by omega) h2, State.busRead_wram (by omega) (by omega), hsub, hoff]

theorem State.busWrite_echo {s : State} {a : Word} (h1 : 0xE000 ≤ a.toNat) (h2 : a.toNat ≤ 0xFDFF) (v : Byte) :
    s.busWrite a v = s.busWrite (a - 0x2000) v := by
  have hsub := echo_toNat h1
  have hoff : (a.toNat - 0xC000) % 0x2000 = (a.toNat - 0x2000 - 0xC000) % 0x2000 := by omega
  rw [State.busWrite_wram (by omega) h2, State.busWrite_wram (by omega) (by omega), hsub, hoff]

/-- Settles O36: one lemma per region; VRAM and OAM split on their block. -/
theorem busMap : Obligations.BusMap := by
  unfold Obligations.BusMap
  intro s a v
  refine ⟨?overlay, ?rom0, fun h1 h2 => State.busRead_romN h1 h2, ?vram, fun h1 h2 => State.busRead_ext h1 h2, ?wram,
    fun h1 h2 => ⟨State.busRead_echo h1 h2, State.busWrite_echo h1 h2 v⟩, ?oam,
    fun h1 h2 => State.busWrite_unusable h1 h2, fun h1 h2 => State.busRead_io h1 h2,
    fun h1 h2 => State.busRead_hram h1 h2, fun h => ⟨State.busRead_ie h, State.busWrite_ie h⟩⟩
  case overlay =>
    intro boot ha hrom hoff
    exact State.busRead_overlay (State.overlay_eq_some hrom hoff) ha
  case rom0 =>
    intro ha h
    exact State.busRead_rom0 ha (h.imp_right State.overlay_eq_none)
  case vram =>
    intro h1 h2
    refine ⟨State.rawRead_vram h1 h2, fun hon hmode => ?_, fun hfree => ?_⟩
    · have hb : s.vramBlocked = true := s.vramBlocked_iff.2 ⟨hon, hmode⟩
      simp [State.busRead_vram h1 h2, State.busWrite_vram h1 h2, hb]
    · have hb : s.vramBlocked = false := Bool.eq_false_iff.2 (mt s.vramBlocked_iff.1 hfree)
      refine ⟨?_, fun hm => State.busWrite_vram_readBack hm hb h1 h2 v⟩
      simp [State.busRead_vram h1 h2, hb]
  case wram =>
    intro h1 h2
    rw [State.busRead_wram h1 (by omega), Nat.mod_eq_of_lt (by omega)]
  case oam =>
    intro h1 h2
    refine ⟨State.rawRead_oam h1 h2, fun hon hmode => ?_, fun hfree => ?_⟩
    · have hb : s.oamBlocked = true := s.oamBlocked_iff.2 ⟨hon, hmode⟩
      simp [State.busRead_oam h1 h2, State.busWrite_oam h1 h2, hb]
    · have hb : s.oamBlocked = false := Bool.eq_false_iff.2 (mt s.oamBlocked_iff.1 hfree)
      refine ⟨?_, fun hm => State.busWrite_oam_readBack hm hb h1 h2 v⟩
      simp [State.busRead_oam h1 h2, hb]

/-! #### OAM DMA -/

/-- Byte `i` of the source page `v` (20_memory.md R140). -/
theorem dmaSource_toNat (v : Byte) {i : Nat} (hi : i < 256) :
    (Word.ofBytes v 0 + BitVec.ofNat 16 i).toNat = v.toNat * 256 + i := by
  have hv := v.isLt
  have hzero : (0 : Byte).toNat = 0 := rfl
  rw [BitVec.toNat_add, Word.ofBytes_toNat, BitVec.toNat_ofNat, hzero]
  omega

/-- A byte written to OAM changes no unblocked read but its own. -/
theorem State.rawRead_oam_write_ne (s : State) {i : Nat} (w : Byte) {a : Word} (h : a.toNat ≠ 0xFE00 + i) :
    ({ s with mem := { s.mem with oam := s.mem.oam.write i w } } : State).rawRead a = s.rawRead a := by
  by_cases hv : 0x8000 ≤ a.toNat ∧ a.toNat ≤ 0x9FFF
  · rw [State.rawRead_vram hv.1 hv.2, State.rawRead_vram hv.1 hv.2]
  by_cases ho : 0xFE00 ≤ a.toNat ∧ a.toNat ≤ 0xFE9F
  · rw [State.rawRead_oam ho.1 ho.2, State.rawRead_oam ho.1 ho.2]
    exact Store.read_write_ne _ _ (by omega)
  rw [State.rawRead_eq_busRead hv ho, State.rawRead_eq_busRead hv ho]
  have hd : SameDevices s { s with mem := { s.mem with oam := s.mem.oam.write i w } } :=
    ⟨rfl, rfl, rfl, rfl, rfl, rfl, rfl, rfl, rfl, rfl, rfl, rfl⟩
  exact State.busRead_eq hd (fun _ _ => rfl) (fun _ _ => rfl)
    (fun _ _ => rfl) (fun h1 h2 => absurd ⟨h1, h2⟩ ho) (fun _ _ => rfl) (fun _ => rfl)

/-- The loop writes OAM and nothing else. -/
theorem State.dmaLoop_frame (v : Byte) : ∀ (k i : Nat) (s : State),
    s.dmaLoop v k i = { s with mem := { s.mem with oam := (s.dmaLoop v k i).mem.oam } }
  | 0, _, _ => rfl
  | k + 1, i, s => by
    rw [State.dmaLoop]
    exact State.dmaLoop_frame v k (i + 1) _

/-- What the loop leaves in OAM: the bytes `i` to `i + k - 1` of the source page as `s` reads them. The page 0xFE is OAM
itself, and its byte `j` is read before the loop writes there. -/
theorem State.dmaLoop_oam_read {s : State} (hm : s.MemOk) (v : Byte) (j : Nat) {k i : Nat} (hk : i + k ≤ 160) :
    (s.dmaLoop v k i).mem.oam.read j
      = if i ≤ j ∧ j < i + k then s.rawRead (Word.ofBytes v 0 + BitVec.ofNat 16 j) else s.mem.oam.read j := by
  induction k generalizing i s with
  | zero =>
    have hnone : ¬ (i ≤ j ∧ j < i + 0) := by omega
    rw [if_neg hnone, State.dmaLoop]
  | succ k ih =>
    rw [State.dmaLoop]
    generalize hw : s.rawRead (Word.ofBytes v 0 + BitVec.ofNat 16 i) = w
    refine (ih (hm.with_oam (k := i) (by omega) w) (by omega)).trans ?_
    by_cases hlater : i + 1 ≤ j ∧ j < i + 1 + k
    · rw [if_pos hlater, if_pos (by omega)]
      refine State.rawRead_oam_write_ne s w ?_
      rw [dmaSource_toNat v (by omega)]
      omega
    rw [if_neg hlater]
    by_cases hnow : j = i
    · subst hnow
      rw [if_pos (by omega), hw]
      exact Store.read_write_same_of_wf hm.oam _ _
    · rw [if_neg (by omega)]
      exact Store.read_write_ne _ _ hnow

/-- Settles O42: the frame and the bytes of the copying loop, from the state that has stored the register. -/
theorem oamDma : Obligations.OamDma := by
  unfold Obligations.OamDma
  intro s v hm
  dsimp only
  have hwrite : s.busWrite 0xFF46 v = s.writeDma v := s.busWrite_reg .dma v (k := 0x46) rfl
  have hu : ({ s with pic := { s.pic with dma := v } } : State).MemOk := hm.of_eq rfl rfl rfl rfl
  have hframe := State.dmaLoop_frame v 160 0 { s with pic := { s.pic with dma := v } }
  have hbytes := fun i => State.dmaLoop_oam_read hu v i (k := 160) (i := 0) (by omega)
  rw [hwrite, State.writeDma]
  generalize State.dmaLoop { s with pic := { s.pic with dma := v } } v 160 0 = t at hframe hbytes ⊢
  refine ⟨hframe, ?bytes, ?source⟩
  case bytes =>
    intro i hi
    have hsrc : Word.ofBytes v 0 + BitVec.ofNat 16 i = BitVec.ofNat 16 (v.toNat * 256 + i) := by
      have hv := v.isLt
      apply BitVec.eq_of_toNat_eq
      rw [dmaSource_toNat v (by omega), BitVec.toNat_ofNat]
      omega
    rw [hbytes i, if_pos (by omega), hsrc]
  case source =>
    intro a
    split
    next hvram => exact State.rawRead_vram hvram.1 hvram.2
    next hvram =>
      split
      next hoam => exact State.rawRead_oam hoam.1 hoam.2
      next hoam => exact State.rawRead_eq_busRead hvram hoam

end Sys2Proof.Machine
end

section
/-! PROOFS. The cartridge (20_memory.md R122-R133): what a mapper command stores, the banks that the fields select, and external
RAM. -/

namespace Sys2Proof.Machine

/-! #### The values that commands store -/

theorem ramEnableValue_eq (v : Byte) : ramEnableValue v = decide (v.toNat % 16 = 0xA) := by
  have hlow : (v.extractLsb' 0 4).toNat = v.toNat % 16 := by simp [BitVec.extractLsb'_toNat]
  rw [ramEnableValue, beq_eq_decide, decide_eq_decide, ← BitVec.toNat_inj, hlow]
  rfl

/-- A field of `w` low bits that stores 1 for 0 (R127, R129, R130). -/
theorem zeroAlias_low_toNat (v : Byte) {w : Nat} (hw : 0 < w) :
    (zeroAlias (v.extractLsb' 0 w)).toNat = max 1 (v.toNat % 2 ^ w) := by
  have hlow : (v.extractLsb' 0 w).toNat = v.toNat % 2 ^ w := by simp [BitVec.extractLsb'_toNat]
  have hone : (1 : BitVec w).toNat = 1 := by simp [BitVec.toNat_ofNat, Nat.one_lt_two_pow hw.ne', Nat.mod_eq_of_lt]
  unfold zeroAlias
  split
  next hzero =>
    have hz : v.toNat % 2 ^ w = 0 := by rw [← hlow, hzero]; rfl
    rw [hone, hz, Nat.max_zero]
  next hpos =>
    have hne : (v.extractLsb' 0 w).toNat ≠ 0 := fun h => hpos (BitVec.eq_of_toNat_eq h)
    rw [hlow] at hne ⊢
    omega

/-! #### The banks, by mapper -/

section
variable {b : Bank}

theorem Bank.bank0_mbc1 (h : b.mbc = .mbc1) : b.bank0 = if b.mode1 then b.hi2.toNat * 32 else 0 := by
  simp only [Bank.bank0, h]

theorem Bank.bank0_of_ne_mbc1 (h : b.mbc ≠ .mbc1) : b.bank0 = 0 := by
  cases hm : b.mbc <;> simp_all [Bank.bank0]

theorem Bank.bankN_mbc1 (h : b.mbc = .mbc1) : b.bankN = b.hi2.toNat * 32 + b.lo5.toNat := by simp only [Bank.bankN, h]
theorem Bank.bankN_mbc2 (h : b.mbc = .mbc2) : b.bankN = b.rom4.toNat := by simp only [Bank.bankN, h]
theorem Bank.bankN_mbc3 (h : b.mbc = .mbc3) : b.bankN = b.rom7.toNat := by simp only [Bank.bankN, h]
theorem Bank.bankN_mbc5 (h : b.mbc = .mbc5) : b.bankN = b.rom9.toNat := by simp only [Bank.bankN, h]

theorem Bank.bankN_unbanked (h : b.mbc = .none ∨ b.mbc = .fallback) : b.bankN = 1 := by
  rcases h with h | h <;> simp only [Bank.bankN, h]

theorem Bank.ramBank_mbc1 (h : b.mbc = .mbc1) : b.ramBank = if b.mode1 then b.hi2.toNat % b.ramBanks else 0 := by
  simp only [Bank.ramBank, h]
theorem Bank.ramBank_mbc3 (h : b.mbc = .mbc3) : b.ramBank = b.ramSel.toNat % b.ramBanks := by simp only [Bank.ramBank, h]
theorem Bank.ramBank_mbc5 (h : b.mbc = .mbc5) : b.ramBank = b.ram4.toNat % b.ramBanks := by simp only [Bank.ramBank, h]

theorem Bank.ramBank_unbanked (h : b.mbc = .none ∨ b.mbc = .fallback) : b.ramBank = 0 := by
  rcases h with h | h <;> simp only [Bank.ramBank, h]

/-! #### The field that a command stores, by mapper and address range -/

variable {a : Word}

theorem Bank.write_unbanked (h : b.mbc = .none ∨ b.mbc = .fallback) (v : Byte) : b.write a v = b := by
  rcases h with h | h <;> simp only [Bank.write, h]

theorem Bank.write_mbc1 (h : b.mbc = .mbc1) (v : Byte) : b.write a v = mbc1Write b a v := by simp only [Bank.write, h]
theorem Bank.write_mbc2 (h : b.mbc = .mbc2) (v : Byte) : b.write a v = mbc2Write b a v := by simp only [Bank.write, h]
theorem Bank.write_mbc3 (h : b.mbc = .mbc3) (v : Byte) : b.write a v = mbc3Write b a v := by simp only [Bank.write, h]
theorem Bank.write_mbc5 (h : b.mbc = .mbc5) (v : Byte) : b.write a v = mbc5Write b a v := by simp only [Bank.write, h]

theorem mbc1Write_enable (ha : a.toNat ≤ 0x1FFF) (v : Byte) :
    mbc1Write b a v = { b with ramEn := decide (v.toNat % 16 = 0xA) } := by
  rw [mbc1Write, if_pos (by omega), ramEnableValue_eq]

theorem mbc1Write_lo5 (h1 : 0x2000 ≤ a.toNat) (h2 : a.toNat ≤ 0x3FFF) (v : Byte) :
    mbc1Write b a v = { b with lo5 := zeroAlias (v.extractLsb' 0 5) } := by
  rw [mbc1Write, if_neg (by omega), if_pos (by omega)]

theorem mbc1Write_hi2 (h1 : 0x4000 ≤ a.toNat) (h2 : a.toNat ≤ 0x5FFF) (v : Byte) :
    mbc1Write b a v = { b with hi2 := v.setWidth 2 } := by
  rw [mbc1Write, if_neg (by omega), if_neg (by omega), if_pos (by omega), BitVec.setWidth_eq_extractLsb' (by omega)]

theorem mbc1Write_mode (h : 0x6000 ≤ a.toNat) (v : Byte) : mbc1Write b a v = { b with mode1 := v.getLsbD 0 } := by
  rw [mbc1Write, if_neg (by omega), if_neg (by omega), if_neg (by omega)]

theorem mbc2Write_enable (ha : a.toNat ≤ 0x3FFF) (hbit : a.getLsbD 8 = false) (v : Byte) :
    mbc2Write b a v = { b with ramEn := decide (v.toNat % 16 = 0xA) } := by
  rw [mbc2Write, if_pos (by omega), if_neg (Bool.eq_false_iff.1 hbit), ramEnableValue_eq]

theorem mbc2Write_rom4 (ha : a.toNat ≤ 0x3FFF) (hbit : a.getLsbD 8 = true) (v : Byte) :
    mbc2Write b a v = { b with rom4 := zeroAlias (v.extractLsb' 0 4) } := by
  rw [mbc2Write, if_pos (by omega), if_pos hbit]

theorem mbc2Write_ignored (ha : 0x4000 ≤ a.toNat) (v : Byte) : mbc2Write b a v = b := by
  rw [mbc2Write, if_neg (by omega)]

theorem mbc3Write_enable (ha : a.toNat ≤ 0x1FFF) (v : Byte) :
    mbc3Write b a v = { b with ramEn := decide (v.toNat % 16 = 0xA) } := by
  rw [mbc3Write, if_pos (by omega), ramEnableValue_eq]

theorem mbc3Write_rom7 (h1 : 0x2000 ≤ a.toNat) (h2 : a.toNat ≤ 0x3FFF) (v : Byte) :
    mbc3Write b a v = { b with rom7 := zeroAlias (v.extractLsb' 0 7) } := by
  rw [mbc3Write, if_neg (by omega), if_pos (by omega)]

theorem mbc3Write_ramSel (h1 : 0x4000 ≤ a.toNat) (h2 : a.toNat ≤ 0x5FFF) (v : Byte) :
    mbc3Write b a v = { b with ramSel := v.setWidth 4 } := by
  rw [mbc3Write, if_neg (by omega), if_neg (by omega), if_pos (by omega), BitVec.setWidth_eq_extractLsb' (by omega)]

theorem mbc3Write_ignored (h : 0x6000 ≤ a.toNat) (v : Byte) : mbc3Write b a v = b := by
  rw [mbc3Write, if_neg (by omega), if_neg (by omega), if_neg (by omega)]

theorem mbc5Write_enable (ha : a.toNat ≤ 0x1FFF) (v : Byte) :
    mbc5Write b a v = { b with ramEn := decide (v.toNat % 16 = 0xA) } := by
  rw [mbc5Write, if_pos (by omega), ramEnableValue_eq]

theorem mbc5Write_rom9Low (h1 : 0x2000 ≤ a.toNat) (h2 : a.toNat ≤ 0x2FFF) (v : Byte) :
    mbc5Write b a v = { b with rom9 := b.rom9.extractLsb' 8 1 ++ v } := by
  rw [mbc5Write, if_neg (by omega), if_pos (by omega)]

theorem mbc5Write_rom9High (h1 : 0x3000 ≤ a.toNat) (h2 : a.toNat ≤ 0x3FFF) (v : Byte) :
    mbc5Write b a v = { b with rom9 := v.extractLsb' 0 1 ++ b.rom9.extractLsb' 0 8 } := by
  rw [mbc5Write, if_neg (by omega), if_neg (by omega), if_pos (by omega)]

theorem mbc5Write_ram4 (h1 : 0x4000 ≤ a.toNat) (h2 : a.toNat ≤ 0x5FFF) (v : Byte) :
    mbc5Write b a v = { b with ram4 := v.setWidth 4 } := by
  rw [mbc5Write, if_neg (by omega), if_neg (by omega), if_neg (by omega), if_pos (by omega),
    BitVec.setWidth_eq_extractLsb' (by omega)]

theorem mbc5Write_ignored (h : 0x6000 ≤ a.toNat) (v : Byte) : mbc5Write b a v = b := by
  rw [mbc5Write, if_neg (by omega), if_neg (by omega), if_neg (by omega), if_neg (by omega)]

end

/-- A bit above a byte. -/
theorem append_byte_toNat (x : BitVec 1) (y : Byte) : (x ++ y).toNat = x.toNat * 256 + y.toNat := by
  rw [BitVec.toNat_append, ← Nat.shiftLeft_add_eq_or_of_lt y.isLt, Nat.shiftLeft_eq]

theorem rom9_high_toNat (r : BitVec 9) : (r.extractLsb' 8 1).toNat = r.toNat / 256 := by
  have h := r.isLt
  simp only [BitVec.extractLsb'_toNat, Nat.shiftRight_eq_div_pow]
  omega

theorem rom9_low_toNat (r : BitVec 9) : (r.extractLsb' 0 8).toNat = r.toNat % 256 := by
  simp [BitVec.extractLsb'_toNat]

/-! #### MBC1 -/

/-- The 5-bit field is never 0, so the bank of the upper window is no multiple of 32. -/
theorem Bank.bankN_mbc1_mod {b : Bank} (h : b.mbc = .mbc1) (hlo : b.lo5 ≠ 0) : b.bankN % 32 ≠ 0 := by
  have hlt := b.lo5.isLt
  have hne : b.lo5.toNat ≠ 0 := fun h0 => hlo (BitVec.eq_of_toNat_eq h0)
  rw [Bank.bankN_mbc1 h]
  omega

theorem Bank.write_lo5_ne_zero {b : Bank} (h : b.mbc = .mbc1) (hlo : b.lo5 ≠ 0) (a : Word) (v : Byte) :
    (b.write a v).lo5 ≠ 0 := by
  rw [Bank.write_mbc1 h, mbc1Write]
  split
  · exact hlo
  split
  · exact zeroAlias_ne_zero (by omega) _
  split <;> exact hlo

/-- Settles O40: the field of each address range (`mbc1Write_*`), and the banks that the fields select (`Bank.bank0_mbc1`,
`Bank.bankN_mbc1`, `Bank.ramBank_mbc1`). -/
theorem mbc1 : Obligations.Mbc1 := by
  unfold Obligations.Mbc1
  intro s a b v hm ha
  have hw : s.bank.write a v = mbc1Write s.bank a v := Bank.write_mbc1 hm v
  have hm' : (s.bank.write a v).mbc = .mbc1 := by rw [Bank.write_mbc, hm]
  dsimp only
  rw [State.busWrite_command ha]
  refine ⟨rfl, fun h => ?enable, fun h1 h2 => ?lo5, fun hlo => ?nonzero, fun h1 h2 => ?hi2, fun h => ?mode,
    ⟨fun hb ho => ?low, fun h1 h2 => ?high, ?ram⟩, fun h1 h2 hmode hhi => ?worked⟩
  case enable => exact hw.trans (mbc1Write_enable h v)
  case lo5 =>
    have hlo5 := hw.trans (mbc1Write_lo5 h1 h2 v)
    simp only [hlo5, zeroAlias_low_toNat v (w := 5) (by omega)]
    exact ⟨trivial, rfl⟩
  case nonzero => exact Bank.bankN_mbc1_mod hm' (Bank.write_lo5_ne_zero hm hlo a v)
  case hi2 => exact hw.trans (mbc1Write_hi2 h1 h2 v)
  case mode => exact hw.trans (mbc1Write_mode h v)
  case low =>
    have ho' : ({ s with bank := s.bank.write a v } : State).overlay = none := ho
    rw [State.busRead_rom0 hb (.inr ho')]
    exact congrArg (fun n => s.mem.rom.read (n % _ * 0x4000 + b.toNat)) (Bank.bank0_mbc1 hm')
  case high =>
    refine (State.busRead_romN h1 h2).trans ?_
    exact congrArg (fun n => s.mem.rom.read (n % _ * 0x4000 + (b.toNat - 0x4000))) (Bank.bankN_mbc1 hm')
  case ram => exact Bank.ramBank_mbc1 hm'
  case worked =>
    have hlo5 := hw.trans (mbc1Write_lo5 h1 h2 v)
    rw [Bank.bankN_mbc1 hm', Bank.write_romBanks, hlo5]
    simp [hhi, zeroAlias_low_toNat]

/-! #### The other mappers -/

/-- Settles O41: for each mapper the field of each address range, and the banks that the fields select. -/
theorem otherMappers : Obligations.OtherMappers := by
  unfold Obligations.OtherMappers
  intro s a v ha
  dsimp only
  rw [State.busWrite_command ha]
  have hmbc : (s.bank.write a v).mbc = s.bank.mbc := s.bank.write_mbc a v
  refine ⟨rfl, fun hm => ?unbanked, fun hm => ?mbc2, fun hm => ?mbc3, fun hm => ?mbc5⟩
  case unbanked =>
    have hne : s.bank.mbc ≠ .mbc1 := by rcases hm with h | h <;> simp [h]
    exact ⟨by rw [Bank.write_unbanked hm], Bank.bank0_of_ne_mbc1 hne, Bank.bankN_unbanked hm, Bank.ramBank_unbanked hm⟩
  case mbc2 =>
    have hw := Bank.write_mbc2 (a := a) hm v
    have hm' := hmbc.trans hm
    refine ⟨fun h hbit => hw.trans (mbc2Write_enable h hbit v), fun h hbit => ?_, fun h => ?_,
      Bank.bank0_of_ne_mbc1 (by simp [hm]), Bank.bankN_mbc2 hm'⟩
    · rw [hw, mbc2Write_rom4 h hbit]
      exact ⟨rfl, zeroAlias_low_toNat v (w := 4) (by omega)⟩
    · rw [hw, mbc2Write_ignored h]
  case mbc3 =>
    have hw := Bank.write_mbc3 (a := a) hm v
    have hm' := hmbc.trans hm
    refine ⟨fun h => hw.trans (mbc3Write_enable h v), fun h1 h2 => ?_, fun h1 h2 => hw.trans (mbc3Write_ramSel h1 h2 v),
      fun h => ?_, Bank.bank0_of_ne_mbc1 (by simp [hm]), Bank.bankN_mbc3 hm', Bank.ramBank_mbc3 hm'⟩
    · rw [hw, mbc3Write_rom7 h1 h2]
      exact ⟨rfl, zeroAlias_low_toNat v (w := 7) (by omega)⟩
    · rw [hw, mbc3Write_ignored h]
  case mbc5 =>
    have hw := Bank.write_mbc5 (a := a) hm v
    have hm' := hmbc.trans hm
    refine ⟨fun h => hw.trans (mbc5Write_enable h v), fun h1 h2 => ?_, fun h1 h2 => ?_,
      fun h1 h2 => hw.trans (mbc5Write_ram4 h1 h2 v), fun h => ?_, Bank.bank0_of_ne_mbc1 (by simp [hm]),
      Bank.bankN_mbc5 hm', Bank.ramBank_mbc5 hm'⟩
    · rw [hw, mbc5Write_rom9Low h1 h2]
      exact ⟨rfl, by rw [append_byte_toNat, rom9_high_toNat]⟩
    · have hbit : (v.extractLsb' 0 1).toNat = v.toNat % 2 := by simp [BitVec.extractLsb'_toNat]
      rw [hw, mbc5Write_rom9High h1 h2]
      exact ⟨rfl, by rw [append_byte_toNat, rom9_low_toNat, hbit]⟩
    · rw [hw, mbc5Write_ignored h]

/-! #### External RAM -/

theorem Bank.clockSelected_iff (b : Bank) : b.clockSelected = true ↔ b.mbc = .mbc3 ∧ 3 < b.ramSel.toNat := by
  simp [Bank.clockSelected]

theorem Bank.ramReachable_iff (b : Bank) : b.ramReachable = true ↔ b.hasRam = true ∧ b.ramSize ≠ 0 ∧ b.ramEn = true := by
  simp [Bank.ramReachable, and_assoc]

section
variable {s : State}

theorem State.extRamRead_mbc2 (h : s.bank.mbc = .mbc2) (a : Word) :
    s.extRamRead a = if s.bank.ramEn then 0xF0 ||| s.mem.ram2.read ((a.toNat - 0xA000) % 512) else 0xFF := by
  rw [State.extRamRead, if_pos h]

theorem State.extRamWrite_mbc2 (h : s.bank.mbc = .mbc2) (a : Word) (v : Byte) :
    s.extRamWrite a v = if s.bank.ramEn
      then { s with mem := { s.mem with ram2 := s.mem.ram2.write ((a.toNat - 0xA000) % 512) (v &&& 0x0F) } } else s := by
  rw [State.extRamWrite, if_pos h]

theorem State.extRamRead_clock (h : s.bank.clockSelected = true) (a : Word) :
    s.extRamRead a = if s.bank.ramEn then Config.mbc3ClockRead s.cycles s.bank.ramSel a else 0xFF := by
  have hmbc : s.bank.mbc ≠ .mbc2 := by simp [(s.bank.clockSelected_iff.1 h).1]
  rw [State.extRamRead, if_neg hmbc, if_pos h]

theorem State.extRamWrite_clock (h : s.bank.clockSelected = true) (a : Word) (v : Byte) : s.extRamWrite a v = s := by
  have hmbc : s.bank.mbc ≠ .mbc2 := by simp [(s.bank.clockSelected_iff.1 h).1]
  rw [State.extRamWrite, if_neg hmbc, if_pos h]

theorem State.extRamRead_ram (hmbc : s.bank.mbc ≠ .mbc2) (hclock : s.bank.clockSelected = false) (a : Word) :
    s.extRamRead a = if s.bank.ramReachable then s.mem.eram.read (s.bank.ramIndex (a.toNat - 0xA000)) else 0xFF := by
  rw [State.extRamRead, if_neg hmbc, if_neg (by simp [hclock])]

theorem State.extRamWrite_ram (hmbc : s.bank.mbc ≠ .mbc2) (hclock : s.bank.clockSelected = false) (a : Word) (v : Byte) :
    s.extRamWrite a v = if s.bank.ramReachable
      then { s with mem := { s.mem with eram := s.mem.eram.write (s.bank.ramIndex (a.toNat - 0xA000)) v } } else s := by
  rw [State.extRamWrite, if_neg hmbc, if_neg (by simp [hclock])]

end

/-- A canonical memory after one write, at every offset. -/
theorem Store.read_write {size : Nat} {m : Store} (h : m.wf size = true) (i j : Nat) (v : Byte) :
    (m.write i v).read j = if i = j then v else m.read j := by
  split
  next heq => rw [← heq, Store.read_write_same_of_wf h]
  next hne => exact Store.read_write_ne m v (Ne.symm hne)

/-- The high nibble reads 1 whatever the cell keeps of it (R129). -/
theorem highNibble_or_low (v : Byte) : 0xF0 ||| (v &&& 0x0F) = 0xF0 ||| v := by
  have h : ∀ w : Byte, 0xF0 ||| (w &&& 0x0F) = 0xF0 ||| w := by decide
  exact h v

/-- An MBC2 cell written is read back at every mirror of it and nowhere else. -/
theorem State.extRamRead_write_mbc2 {s : State} (hm : s.MemOk) (h : s.bank.mbc = .mbc2) (hen : s.bank.ramEn = true)
    (a b : Word) (v : Byte) : (s.extRamWrite a v).extRamRead b
      = if (a.toNat - 0xA000) % 512 = (b.toNat - 0xA000) % 512 then 0xF0 ||| v else s.extRamRead b := by
  have hcell : (s.extRamWrite a v).mem.ram2 = s.mem.ram2.write ((a.toNat - 0xA000) % 512) (v &&& 0x0F) := by
    rw [State.extRamWrite_mbc2 h, if_pos hen]
  rw [State.extRamRead_mbc2 (s := s.extRamWrite a v) (by simp [h]), State.extRamRead_mbc2 h, State.extRamWrite_bank,
    if_pos hen, if_pos hen, hcell, Store.read_write hm.ram2]
  split
  · exact highNibble_or_low v
  · rfl

/-- A byte of banked RAM written is read back at every address of its index and nowhere else (R123). -/
theorem State.extRamRead_write_ram {s : State} (hm : s.MemOk) (hmbc : s.bank.mbc ≠ .mbc2)
    (hclock : s.bank.clockSelected = false) (hr : s.bank.ramReachable = true) (a b : Word) (v : Byte) :
    (s.extRamWrite a v).extRamRead b
      = if s.bank.ramIndex (a.toNat - 0xA000) = s.bank.ramIndex (b.toNat - 0xA000) then v else s.extRamRead b := by
  have hbyte : (s.extRamWrite a v).mem.eram = s.mem.eram.write (s.bank.ramIndex (a.toNat - 0xA000)) v := by
    rw [State.extRamWrite_ram hmbc hclock, if_pos hr]
  rw [State.extRamRead_ram (s := s.extRamWrite a v) (by simp [hmbc]) (by simp [hclock]), State.extRamRead_ram hmbc hclock,
    State.extRamWrite_bank, if_pos hr, if_pos hr, hbyte, Store.read_write hm.eram]

/-- Settles O39: MBC2's cells, a selected clock register, and banked RAM. -/
theorem externalRam : Obligations.ExternalRam := by
  unfold Obligations.ExternalRam
  intro s a b v hm ha1 ha2 hb1 hb2
  rw [State.busWrite_ext ha1 ha2, State.busRead_ext ha1 ha2, State.busRead_ext hb1 hb2, State.busRead_ext hb1 hb2]
  refine ⟨fun hmbc => ⟨fun hen => ?disabled, fun hen => ?cell⟩, fun hmbc hsel => ?clock,
    fun hmbc hnoClock => ⟨fun habsent => ?absent, fun hram hsize hen => ?banked⟩⟩
  case disabled =>
    simp [State.extRamRead_mbc2 hmbc, State.extRamWrite_mbc2 hmbc, hen]
  case cell =>
    refine ⟨?_, State.extRamRead_write_mbc2 hm hmbc hen a b v⟩
    rw [State.extRamRead_mbc2 hmbc, if_pos hen]
  case clock =>
    have hclock := s.bank.clockSelected_iff.2 ⟨hmbc, hsel⟩
    refine ⟨State.extRamWrite_clock hclock a v, fun hen => ?_⟩
    simp [State.extRamRead_clock hclock, hen]
  case absent =>
    have hclock := Bool.eq_false_iff.2 (mt s.bank.clockSelected_iff.1 hnoClock)
    have hr : s.bank.ramReachable = false := by
      rw [Bool.eq_false_iff, ne_eq, s.bank.ramReachable_iff]
      rintro ⟨hram, hsize, hen⟩
      simp [hram, hsize, hen] at habsent
    simp [State.extRamRead_ram hmbc hclock, State.extRamWrite_ram hmbc hclock, hr]
  case banked =>
    have hclock := Bool.eq_false_iff.2 (mt s.bank.clockSelected_iff.1 hnoClock)
    have hr := s.bank.ramReachable_iff.2 ⟨hram, hsize, hen⟩
    refine ⟨?_, State.extRamRead_write_ram hm hmbc hclock hr a b v⟩
    rw [State.extRamRead_ram hmbc hclock, if_pos hr]
    rfl

end Sys2Proof.Machine
end

section
/-! PROOFS. Encoding and decoding (30_encoding.md R160-R173): the extended set by the fields of its second byte, the two round
trips by the length of the instruction, and the opcode map by fields. -/

namespace Sys2Proof

/-! #### The fields of a byte -/

theorem Reg8.code_lt (r : Reg8) : r.code < 8 := by cases r <;> decide

theorem RotOp.code_lt (k : RotOp) : k.code < 8 := by cases k <;> decide

theorem BitOp.code_lt (op : BitOp) : op.code < 4 := by cases op <;> decide

theorem Reg8.ofCode_code (r : Reg8) : Reg8.ofCode r.code = some r := by cases r <;> rfl

theorem RotOp.ofCode_code (k : RotOp) : RotOp.ofCode k.code = k := by cases k <;> rfl

/-- A field value of `r[.]` is the code of a register or the 6 of `(HL)` (R162). -/
theorem eq_six_or_regCode {z : Nat} (h : z < 8) : z = 6 ∨ ∃ r : Reg8, z = r.code := by
  interval_cases z
  exacts [.inr ⟨.b, rfl⟩, .inr ⟨.c, rfl⟩, .inr ⟨.d, rfl⟩, .inr ⟨.e, rfl⟩, .inr ⟨.h, rfl⟩, .inr ⟨.l, rfl⟩, .inl rfl,
    .inr ⟨.a, rfl⟩]

/-- A group of the extended set is the rotates, x = 0, or one that names a bit (R163). -/
theorem eq_zero_or_bitOpCode {x : Nat} (h : x < 4) : x = 0 ∨ ∃ op : BitOp, x = op.code := by
  interval_cases x
  exacts [.inl rfl, .inr ⟨.bit, rfl⟩, .inr ⟨.res, rfl⟩, .inr ⟨.set, rfl⟩]

theorem RotOp.code_ofCode {y : Nat} (h : y < 8) : (RotOp.ofCode y).code = y := by interval_cases y <;> rfl

theorem fieldByte_eq_cbByte (x y z : Nat) : fieldByte x y z = cbByte x y z := by
  simp only [fieldByte, cbByte, Nat.mul_comm]

section
variable {x y z : Nat} (hx : x < 4) (hy : y < 8) (hz : z < 8)
include hx hy hz

theorem cbByte_toNat : (cbByte x y z).toNat = x * 64 + y * 8 + z := by
  rw [cbByte, BitVec.toNat_ofNat]
  omega

theorem cbByte_x : (cbByte x y z).toNat / 64 = x := by
  rw [cbByte_toNat hx hy hz]
  omega

theorem cbByte_y : Fin.ofNat 8 ((cbByte x y z).toNat / 8) = ⟨y, hy⟩ := by
  refine Fin.ext ?_
  rw [Fin.val_ofNat, cbByte_toNat hx hy hz]
  change _ = y
  omega

theorem cbByte_z : (cbByte x y z).toNat % 8 = z := by
  rw [cbByte_toNat hx hy hz]
  omega

end

/-- A byte is made of its fields (R161). -/
theorem eq_cbByte (b : Byte) : b = cbByte (b.toNat / 64) (b.toNat / 8 % 8) (b.toNat % 8) := by
  have hlt := b.isLt
  refine BitVec.eq_of_toNat_eq ?_
  rw [cbByte_toNat (by omega) (by omega) (by omega)]
  omega

/-! #### The extended set (R163) -/

/-- The row of the extended set that the second byte `b` selects, read and written. -/
structure Instr.SelectedBy (i : Instr) (b : Byte) : Prop where
  decodes : decodeCb b = i
  encodes : encode i = [0xCB, b]
  wellFormed : i.wellFormed = true

theorem Instr.selectedBy_rotReg (k : RotOp) (r : Reg8) : (Instr.rotReg k r).SelectedBy (cbByte 0 k.code r.code) where
  decodes := by
    have hx : 0 < 4 := by decide
    simp only [decodeCb, cbByte_x hx k.code_lt r.code_lt, cbByte_y hx k.code_lt r.code_lt,
      cbByte_z hx k.code_lt r.code_lt, Reg8.ofCode_code, RotOp.ofCode_code]
  encodes := by cases k <;> rfl
  wellFormed := by cases k <;> rfl

theorem Instr.selectedBy_rotAtHL (k : RotOp) : (Instr.rotAtHL k).SelectedBy (cbByte 0 k.code 6) := by
  cases k <;> exact ⟨rfl, rfl, rfl⟩

theorem Instr.selectedBy_bitReg (op : BitOp) (n : Fin 8) (r : Reg8) :
    (Instr.bitReg op n r).SelectedBy (cbByte op.code n.val r.code) where
  decodes := by
    simp only [decodeCb, cbByte_x op.code_lt n.isLt r.code_lt, cbByte_y op.code_lt n.isLt r.code_lt,
      cbByte_z op.code_lt n.isLt r.code_lt, Reg8.ofCode_code]
    cases op <;> rfl
  encodes := by cases op <;> rfl
  wellFormed := by cases op <;> rfl

theorem Instr.selectedBy_bitAtHL (op : BitOp) (n : Fin 8) :
    (Instr.bitAtHL op n).SelectedBy (cbByte op.code n.val 6) where
  decodes := by
    have hz : 6 < 8 := by decide
    simp only [decodeCb, cbByte_x op.code_lt n.isLt hz, cbByte_y op.code_lt n.isLt hz, cbByte_z op.code_lt n.isLt hz]
    cases op <;> rfl
  encodes := by cases op <;> rfl
  wellFormed := by cases op <;> rfl

/-- Every second byte selects a row of the extended set: none is illegal (R163, R171). -/
theorem Instr.exists_selectedBy (b : Byte) : ∃ i : Instr, i.SelectedBy b := by
  have hlt := b.isLt
  have hy : b.toNat / 8 % 8 < 8 := Nat.mod_lt _ (by decide)
  obtain hx | ⟨op, hx⟩ := eq_zero_or_bitOpCode (x := b.toNat / 64) (by omega)
    <;> obtain hz | ⟨r, hz⟩ := eq_six_or_regCode (z := b.toNat % 8) (by omega)
    <;> rw [eq_cbByte b, hx, hz]
  · exact ⟨_, RotOp.code_ofCode hy ▸ selectedBy_rotAtHL _⟩
  · exact ⟨_, RotOp.code_ofCode hy ▸ selectedBy_rotReg _ r⟩
  · exact ⟨_, selectedBy_bitAtHL op ⟨_, hy⟩⟩
  · exact ⟨_, selectedBy_bitReg op ⟨_, hy⟩ r⟩

theorem Instr.selectedBy_decodeCb (b : Byte) : (decodeCb b).SelectedBy b := by
  obtain ⟨i, h⟩ := exists_selectedBy b
  exact h.decodes ▸ h

theorem Instr.SelectedBy.decode_encode {i : Instr} {b : Byte} (h : i.SelectedBy b) (rest : List Byte) :
    decode (encode i ++ rest) = .ok (i, rest) := by
  rw [h.encodes, ← h.decodes]
  rfl

/-! #### Decoding by the length of the instruction (R173) -/

section
variable {op : Byte} {rest : List Byte}

theorem decode_one (h : instrLength op = 1) : decode (op :: rest) = .ok (decodeBytes op 0 0, rest) := by
  simp only [decode, h]

theorem decode_two (h : instrLength op = 2) (b : Byte) : decode (op :: b :: rest) = .ok (decodeBytes op b 0, rest) := by
  simp only [decode, h]

theorem decode_three (h : instrLength op = 3) (b1 b2 : Byte) :
    decode (op :: b1 :: b2 :: rest) = .ok (decodeBytes op b1 b2, rest) := by
  simp only [decode, h]

/-- A word operand is read back from its two bytes, the low one first (R160, R164). -/
theorem decode_word {f : Word → Instr} (h : instrLength op = 3)
    (hf : ∀ b1 b2, decodeBytes op b1 b2 = f (Word.ofBytes b2 b1)) (nn : Word) :
    decode (op :: nn.lo :: nn.hi :: rest) = .ok (f nn, rest) := by
  rw [decode_three h, hf, Word.ofBytes_hi_lo]

end

/-- What the decoder accepts, by the length that the first byte gives. -/
theorem decode_cases {l rest : List Byte} {i : Instr} (h : decode l = .ok (i, rest)) :
    (∃ op, instrLength op = 1 ∧ l = op :: rest ∧ i = decodeBytes op 0 0)
      ∨ (∃ op b, instrLength op = 2 ∧ l = op :: b :: rest ∧ i = decodeBytes op b 0)
      ∨ ∃ op b1 b2, instrLength op = 3 ∧ l = op :: b1 :: b2 :: rest ∧ i = decodeBytes op b1 b2 := by
  cases l with
  | nil => cases h
  | cons op tail =>
    unfold decode at h
    dsimp only at h
    split at h
    next hlen => cases h; exact .inl ⟨op, hlen, rfl, rfl⟩
    next b _ hlen => cases h; exact .inr (.inl ⟨op, b, hlen, rfl, rfl⟩)
    next b1 b2 _ hlen => cases h; exact .inr (.inr ⟨op, b1, b2, hlen, rfl, rfl⟩)
    next => cases h

/-! #### The two round trips -/

/-- Settles O1, by the instruction's format (R160): a word operand (`decode_word`), a byte operand (`decode_two`), the extended
set (`Instr.SelectedBy.decode_encode`), or an opcode alone (`decode_one`). -/
theorem decodeOfEncode : Obligations.DecodeOfEncode := by
  unfold Obligations.DecodeOfEncode
  intro i rest hi
  cases i with
  | prefix_cb => cases hi
  | ld_bc_nn nn | ld_de_nn nn | ld_hl_nn nn | ld_sp_nn nn | ld_atNN_sp nn | ld_atNN_a nn | ld_a_atNN nn
  | jp_nn nn | jp_nz_nn nn | jp_z_nn nn | jp_nc_nn nn | jp_c_nn nn
  | call_nn nn | call_nz_nn nn | call_z_nn nn | call_nc_nn nn | call_c_nn nn => exact decode_word rfl (fun _ _ => rfl) nn
  | ld_b_n n | ld_c_n n | ld_d_n n | ld_e_n n | ld_h_n n | ld_l_n n | ld_a_n n | ld_atHL_n n
  | add_a_n n | adc_a_n n | sub_n n | sbc_a_n n | and_n n | xor_n n | or_n n | cp_n n
  | jr_e n | jr_nz_e n | jr_z_e n | jr_nc_e n | jr_c_e n | ldh_atN_a n | ldh_a_atN n
  | add_sp_e n | ld_hl_spe n | stop n => exact decode_two rfl n
  | rlc_r r => exact (Instr.selectedBy_rotReg .rlc r).decode_encode rest
  | rrc_r r => exact (Instr.selectedBy_rotReg .rrc r).decode_encode rest
  | rl_r r => exact (Instr.selectedBy_rotReg .rl r).decode_encode rest
  | rr_r r => exact (Instr.selectedBy_rotReg .rr r).decode_encode rest
  | sla_r r => exact (Instr.selectedBy_rotReg .sla r).decode_encode rest
  | sra_r r => exact (Instr.selectedBy_rotReg .sra r).decode_encode rest
  | swap_r r => exact (Instr.selectedBy_rotReg .swap r).decode_encode rest
  | srl_r r => exact (Instr.selectedBy_rotReg .srl r).decode_encode rest
  | bit_r n r => exact (Instr.selectedBy_bitReg .bit n r).decode_encode rest
  | res_r n r => exact (Instr.selectedBy_bitReg .res n r).decode_encode rest
  | set_r n r => exact (Instr.selectedBy_bitReg .set n r).decode_encode rest
  | bit_atHL n => exact (Instr.selectedBy_bitAtHL .bit n).decode_encode rest
  | res_atHL n => exact (Instr.selectedBy_bitAtHL .res n).decode_encode rest
  | set_atHL n => exact (Instr.selectedBy_bitAtHL .set n).decode_encode rest
  | rlc_atHL => exact (Instr.selectedBy_rotAtHL .rlc).decode_encode rest
  | rrc_atHL => exact (Instr.selectedBy_rotAtHL .rrc).decode_encode rest
  | rl_atHL => exact (Instr.selectedBy_rotAtHL .rl).decode_encode rest
  | rr_atHL => exact (Instr.selectedBy_rotAtHL .rr).decode_encode rest
  | sla_atHL => exact (Instr.selectedBy_rotAtHL .sla).decode_encode rest
  | sra_atHL => exact (Instr.selectedBy_rotAtHL .sra).decode_encode rest
  | swap_atHL => exact (Instr.selectedBy_rotAtHL .swap).decode_encode rest
  | srl_atHL => exact (Instr.selectedBy_rotAtHL .srl).decode_encode rest
  | _ => exact decode_one rfl

theorem mem_wordOperandOpcodes_of_instrLength {op : Byte} (h : instrLength op = 3) : op ∈ wordOperandOpcodes := by
  unfold instrLength at h
  split_ifs at h with _ hword
  · cases h
  · exact hword
  · cases h
  · cases h

theorem mem_byteOperandOpcodes_of_instrLength {op : Byte} (h : instrLength op = 2) :
    op = 0xCB ∨ op ∈ byteOperandOpcodes := by
  unfold instrLength at h
  split_ifs at h with hcb _ hbyte
  · exact .inl hcb
  · cases h
  · exact .inr hbyte
  · cases h

theorem encode_decodeBytes_one : ∀ op : Byte, instrLength op = 1 →
    (decodeBytes op 0 0).wellFormed = true ∧ encode (decodeBytes op 0 0) = [op] := by
  decide

theorem encode_decodeBytes_two {op : Byte} (h : instrLength op = 2) (b : Byte) :
    (decodeBytes op b 0).wellFormed = true ∧ encode (decodeBytes op b 0) = [op, b] := by
  obtain rfl | hbyte := mem_byteOperandOpcodes_of_instrLength h
  · exact ⟨(Instr.selectedBy_decodeCb b).wellFormed, (Instr.selectedBy_decodeCb b).encodes⟩
  · unfold byteOperandOpcodes at hbyte
    fin_cases hbyte <;> exact ⟨rfl, rfl⟩

theorem encode_decodeBytes_three {op : Byte} (h : instrLength op = 3) (b1 b2 : Byte) :
    (decodeBytes op b1 b2).wellFormed = true ∧ encode (decodeBytes op b1 b2) = [op, b1, b2] := by
  have hbytes (o : Byte) : [o, (Word.ofBytes b2 b1).lo, (Word.ofBytes b2 b1).hi] = [o, b1, b2] := by
    rw [Word.lo_ofBytes, Word.hi_ofBytes]
  have hword := mem_wordOperandOpcodes_of_instrLength h
  unfold wordOperandOpcodes at hword
  fin_cases hword <;> exact ⟨rfl, hbytes _⟩

/-- Settles O2, by the length of the instruction (`decode_cases`). -/
theorem encodeOfDecode : Obligations.EncodeOfDecode := by
  unfold Obligations.EncodeOfDecode
  intro l rest i h
  obtain ⟨op, hlen, rfl, rfl⟩ | ⟨op, b, hlen, rfl, rfl⟩ | ⟨op, b1, b2, hlen, rfl, rfl⟩ := decode_cases h
  · obtain ⟨hwf, henc⟩ := encode_decodeBytes_one op hlen
    exact ⟨hwf, congrArg (· ++ rest) henc⟩
  · obtain ⟨hwf, henc⟩ := encode_decodeBytes_two hlen b
    exact ⟨hwf, congrArg (· ++ rest) henc⟩
  · obtain ⟨hwf, henc⟩ := encode_decodeBytes_three hlen b1 b2
    exact ⟨hwf, congrArg (· ++ rest) henc⟩

/-! #### The opcode map by fields (R167-R169) -/

theorem encode_ldRegReg (r q : Reg8) : encode (.ldRegReg r q) = [fieldByte 1 r.code q.code] := by
  cases r <;> cases q <;> rfl

theorem encode_ldRegAtHL (r : Reg8) : encode (.ldRegAtHL r) = [fieldByte 1 r.code 6] := by cases r <;> rfl

theorem encode_ldAtHLReg (r : Reg8) : encode (.ldAtHLReg r) = [fieldByte 1 6 r.code] := by cases r <;> rfl

theorem encode_incReg (r : Reg8) : encode (.incReg r) = [fieldByte 0 r.code 4] := by cases r <;> rfl

theorem encode_decReg (r : Reg8) : encode (.decReg r) = [fieldByte 0 r.code 5] := by cases r <;> rfl

theorem encode_ldRegN (r : Reg8) (n : Byte) : encode (.ldRegN r n) = [fieldByte 0 r.code 6, n] := by cases r <;> rfl

theorem encode_aluReg (op : AluOp) (r : Reg8) : encode (.aluReg op r) = [fieldByte 2 op.code r.code] := by
  cases op <;> cases r <;> rfl

theorem encode_aluAtHL (op : AluOp) : encode (.aluAtHL op) = [fieldByte 2 op.code 6] := by cases op <;> rfl

theorem encode_aluN (op : AluOp) (n : Byte) : encode (.aluN op n) = [fieldByte 3 op.code 6, n] := by cases op <;> rfl

theorem encode_ldPairNN (p : Reg16) (nn : Word) :
    encode (.ldPairNN p nn) = [fieldByte 0 (2 * p.code) 1, nn.lo, nn.hi] := by cases p <;> rfl

theorem encode_addHLPair (p : Reg16) : encode (.addHLPair p) = [fieldByte 0 (2 * p.code + 1) 1] := by cases p <;> rfl

theorem encode_incPair (p : Reg16) : encode (.incPair p) = [fieldByte 0 (2 * p.code) 3] := by cases p <;> rfl

theorem encode_decPair (p : Reg16) : encode (.decPair p) = [fieldByte 0 (2 * p.code + 1) 3] := by cases p <;> rfl

theorem encode_pop (p : StackReg) : encode (.pop p) = [fieldByte 3 (2 * p.code) 1] := by cases p <;> rfl

theorem encode_push (p : StackReg) : encode (.push p) = [fieldByte 3 (2 * p.code) 5] := by cases p <;> rfl

theorem encode_jrCond (cc : Cond) (e : Byte) : encode (.jrCond cc e) = [fieldByte 0 (cc.code + 4) 0, e] := by
  cases cc <;> rfl

theorem encode_jpCond (cc : Cond) (nn : Word) : encode (.jpCond cc nn) = [fieldByte 3 cc.code 2, nn.lo, nn.hi] := by
  cases cc <;> rfl

theorem encode_callCond (cc : Cond) (nn : Word) :
    encode (.callCond cc nn) = [fieldByte 3 cc.code 4, nn.lo, nn.hi] := by cases cc <;> rfl

theorem encode_retCond (cc : Cond) : encode (.retCond cc) = [fieldByte 3 cc.code 0] := by cases cc <;> rfl

theorem encode_rst (y : Fin 8) : encode (.rst y) = [fieldByte 3 y.val 7] := by
  fin_cases y <;> rfl

theorem Instr.SelectedBy.encode_fieldByte {i : Instr} {x y z : Nat} (h : i.SelectedBy (cbByte x y z)) :
    encode i = [0xCB, fieldByte x y z] := by
  rw [h.encodes, fieldByte_eq_cbByte]

/-- Settles O3: one lemma per form with a register, pair, condition, operation or bit; the other rows are one opcode each. -/
theorem opcodeMapByFields : Obligations.OpcodeMapByFields := by
  unfold Obligations.OpcodeMapByFields
  exact ⟨encode_ldRegReg,
    fun r => ⟨encode_ldRegAtHL r, encode_ldAtHLReg r, encode_incReg r, encode_decReg r⟩,
    encode_ldRegN, rfl, rfl, fun _ => rfl, rfl, encode_aluReg, encode_aluAtHL, encode_aluN, encode_ldPairNN,
    fun p => ⟨encode_addHLPair p, encode_incPair p, encode_decPair p⟩,
    rfl, rfl, rfl, rfl, rfl, rfl, rfl, rfl,
    rfl, fun _ => rfl, fun _ => ⟨rfl, rfl⟩, encode_jrCond,
    rfl, rfl, rfl, rfl, rfl, rfl, rfl, rfl,
    encode_retCond, fun _ => ⟨rfl, rfl, rfl, rfl⟩,
    fun p => ⟨encode_pop p, encode_push p⟩,
    rfl, rfl, rfl, rfl,
    fun cc nn => ⟨encode_jpCond cc nn, encode_callCond cc nn⟩,
    rfl, rfl, fun _ => ⟨rfl, rfl, rfl, rfl⟩, rfl, rfl, encode_rst, rfl,
    fun k r => (Instr.selectedBy_rotReg k r).encode_fieldByte,
    fun k => (Instr.selectedBy_rotAtHL k).encode_fieldByte,
    fun op b r => (Instr.selectedBy_bitReg op b r).encode_fieldByte,
    fun op b => (Instr.selectedBy_bitAtHL op b).encode_fieldByte⟩

end Sys2Proof
end

section
/-! PROOFS. The 8-bit loads (40_loads_8bit.md R200-R219): each form is one register write or one bus write, perhaps with HL
stepped after it. -/

namespace Sys2Proof.Machine

/-! #### What each form of several opcodes does -/

theorem exec_ldRegReg (r q : Reg8) (s : State) : exec (.ldRegReg r q) s = .next (s.setReg r (s.reg q)) := by
  cases r <;> cases q <;> rfl

theorem exec_ldRegN (r : Reg8) (n : Byte) (s : State) : exec (.ldRegN r n) s = .next (s.setReg r n) := by
  cases r <;> rfl

theorem exec_ldRegAtHL (r : Reg8) (s : State) : exec (.ldRegAtHL r) s = .next (s.setReg r (s.busRead s.hl)) := by
  cases r <;> rfl

theorem exec_ldAtHLReg (r : Reg8) (s : State) : exec (.ldAtHLReg r) s = .next (s.busWrite s.hl (s.reg r)) := by
  cases r <;> rfl

theorem coded_ldRegReg (r q : Reg8) (s : State) : Coded (.ldRegReg r q) [fieldByte 1 r.code q.code] 1 s :=
  ⟨encode_ldRegReg r q, by cases r <;> cases q <;> rfl⟩

theorem coded_ldRegN (r : Reg8) (n : Byte) (s : State) : Coded (.ldRegN r n) [fieldByte 0 r.code 6, n] 2 s :=
  ⟨encode_ldRegN r n, by cases r <;> rfl⟩

theorem coded_ldRegAtHL (r : Reg8) (s : State) : Coded (.ldRegAtHL r) [fieldByte 1 r.code 6] 2 s :=
  ⟨encode_ldRegAtHL r, by cases r <;> rfl⟩

theorem coded_ldAtHLReg (r : Reg8) (s : State) : Coded (.ldAtHLReg r) [fieldByte 1 6 r.code] 2 s :=
  ⟨encode_ldAtHLReg r, by cases r <;> rfl⟩

/-! #### Loads of one register -/

section
variable {i : Instr} {s : State}

/-- A form that writes one 8-bit register, and its frame. -/
theorem exists_next_of_setReg {r : Reg8} {v : Byte} (h : exec i s = .next (s.setReg r v)) :
    ∃ t, exec i s = .next t ∧ t.reg r = v ∧ KeepsFlags s t ∧ WritesOnly [r] s t :=
  ⟨s.setReg r v, h, s.reg_setReg r v, s.setReg_keepsFlags r v, s.setReg_writesOnly r v⟩

theorem loadsA_of_setReg {bytes : List Byte} {n : Nat} {a : Word} (hcoded : Coded i bytes n s)
    (h : exec i s = .next (s.setReg .a (s.busRead a))) : LoadsA i bytes n a s :=
  ⟨hcoded, exists_next_of_setReg h⟩

end

/-- Settles O5: each of the three forms is one register write (`exists_next_of_setReg`). -/
theorem loadRegister : Obligations.LoadRegister := by
  unfold Obligations.LoadRegister
  intro s r q n
  exact ⟨⟨coded_ldRegReg r q s, exists_next_of_setReg (exec_ldRegReg r q s)⟩,
    ⟨coded_ldRegN r n s, exists_next_of_setReg (exec_ldRegN r n s)⟩,
    ⟨coded_ldRegAtHL r s, exists_next_of_setReg (exec_ldRegAtHL r s)⟩⟩

/-! #### HL stepped after the access -/

theorem KeepsFlags.trans {s t u : State} (h1 : KeepsFlags s t) (h2 : KeepsFlags t u) : KeepsFlags s u := by
  obtain ⟨hz1, hn1, hh1, hc1⟩ := h1
  obtain ⟨hz2, hn2, hh2, hc2⟩ := h2
  exact ⟨hz2.trans hz1, hn2.trans hn1, hh2.trans hh1, hc2.trans hc1⟩

theorem KeepsAllButRegs.trans {s t u : State} (h1 : KeepsAllButRegs s t) (h2 : KeepsAllButRegs t u) :
    KeepsAllButRegs s u := by
  obtain ⟨ht, hread1⟩ := h1
  obtain ⟨hu, hread2⟩ := h2
  exact ⟨hu.trans (congrArg (fun w : State => { w with regs := u.regs }) ht), fun a => (hread2 a).trans (hread1 a)⟩

/-- Two register writes one after the other write no more than the registers of both. -/
theorem WritesOnly.trans {ws us : List Reg8} {s t u : State} (h1 : WritesOnly ws s t) (h2 : WritesOnly us t u) :
    WritesOnly (ws ++ us) s u := by
  obtain ⟨hregs1, hsp1, hpc1, hrest1⟩ := h1
  obtain ⟨hregs2, hsp2, hpc2, hrest2⟩ := h2
  refine ⟨fun q hq => ?_, Eq.trans hsp2 hsp1, Eq.trans hpc2 hpc1, hrest1.trans hrest2⟩
  rw [List.mem_append, not_or] at hq
  obtain ⟨hws, hus⟩ := hq
  exact (hregs2 q hus).trans (hregs1 q hws)

theorem State.setHl_keepsFlags (s : State) (v : Word) : KeepsFlags s (s.setHl v) := ⟨rfl, rfl, rfl, rfl⟩

theorem State.setHl_writesOnly (s : State) (v : Word) : WritesOnly [.h, .l] s (s.setHl v) := by
  refine ⟨fun q hq => ?_, rfl, rfl, keepsAllButRegs_of_regs s _⟩
  cases q with
  | h | l => simp at hq
  | b | c | d | e | a => rfl

/-- A form that loads A from the byte at HL and then sets HL to `w` (R211, R212). -/
theorem exists_next_of_loadA_setHl {i : Instr} {s : State} {v : Byte} {w : Word}
    (h : exec i s = .next ((s.setReg .a v).setHl w)) :
    ∃ t, exec i s = .next t ∧ t.reg .a = v ∧ t.hl = w ∧ KeepsFlags s t ∧ WritesOnly [.a, .h, .l] s t :=
  ⟨_, h, rfl, State.hl_setHl _ w, (s.setReg_keepsFlags .a v).trans (State.setHl_keepsFlags _ w),
    (s.setReg_writesOnly .a v).trans (State.setHl_writesOnly _ w)⟩

/-- Settles O6: five loads write A alone; the last two are that load and then a write of HL. -/
theorem loadAccumulator : Obligations.LoadAccumulator := by
  unfold Obligations.LoadAccumulator
  intro s n nn
  exact ⟨loadsA_of_setReg ⟨rfl, rfl⟩ rfl, loadsA_of_setReg ⟨rfl, rfl⟩ rfl, loadsA_of_setReg ⟨rfl, rfl⟩ rfl,
    loadsA_of_setReg ⟨rfl, rfl⟩ rfl, loadsA_of_setReg ⟨rfl, rfl⟩ rfl,
    ⟨⟨rfl, rfl⟩, exists_next_of_loadA_setHl rfl⟩, ⟨⟨rfl, rfl⟩, exists_next_of_loadA_setHl rfl⟩⟩

/-! #### Byte stores -/

section
variable {i : Instr} {s : State} {a : Word} {v : Byte}

/-- A form that is one bus write, with the frame of every store. -/
theorem storesByte_of_busWrite {bytes : List Byte} {n : Nat} (hcoded : Coded i bytes n s)
    (h : exec i s = .next (s.busWrite a v)) : StoresByte i bytes n a v s :=
  ⟨hcoded, s.busWrite a v, h, s.busWrite_regs a v, stores_busWrite s a v⟩

/-- A form that stores a byte and then sets HL to `w` (R213, R214): a bus write leaves the register file alone, so HL is
written in the registers from before. -/
theorem exists_next_of_busWrite_setHl {w : Word} (h : exec i s = .next ((s.busWrite a v).setHl w)) :
    ∃ t, exec i s = .next t ∧ t.regs = (s.setHl w).regs ∧ Stores s t a v := by
  have hregs : ((s.busWrite a v).setHl w).regs = (s.setHl w).regs := by
    simp only [State.setHl, State.busWrite_regs]
  exact ⟨_, h, hregs, stores_with_regs s a v _⟩

end

/-- Settles O7: seven forms are one bus write (`storesByte_of_busWrite`); the last two then write HL. -/
theorem storeByte : Obligations.StoreByte := by
  unfold Obligations.StoreByte
  intro s r n nn
  exact ⟨storesByte_of_busWrite (coded_ldAtHLReg r s) (exec_ldAtHLReg r s),
    storesByte_of_busWrite ⟨rfl, rfl⟩ rfl, storesByte_of_busWrite ⟨rfl, rfl⟩ rfl, storesByte_of_busWrite ⟨rfl, rfl⟩ rfl,
    storesByte_of_busWrite ⟨rfl, rfl⟩ rfl, storesByte_of_busWrite ⟨rfl, rfl⟩ rfl, storesByte_of_busWrite ⟨rfl, rfl⟩ rfl,
    ⟨⟨rfl, rfl⟩, exists_next_of_busWrite_setHl rfl⟩, ⟨⟨rfl, rfl⟩, exists_next_of_busWrite_setHl rfl⟩⟩

end Sys2Proof.Machine
end

section
/-! PROOFS. The 16-bit loads and the stack (41_loads_16bit.md R250-R256), and ADD SP,e (43_alu_16bit.md R333): each form is
one pair write, two bus writes, or a read of the word at SP. -/

namespace Sys2Proof.Machine

/-! #### Loads of one pair -/

theorem exec_ldPairNN (p : Reg16) (nn : Word) (s : State) : exec (.ldPairNN p nn) s = .next (s.setPair p nn) := by
  cases p <;> rfl

theorem coded_ldPairNN (p : Reg16) (nn : Word) (s : State) :
    Coded (.ldPairNN p nn) [fieldByte 0 (2 * p.code) 1, nn.lo, nn.hi] 3 s :=
  ⟨encode_ldPairNN p nn, by cases p <;> rfl⟩

theorem State.pair_setFlags (s : State) (p : Reg16) (z n h c : Bool) : (s.setFlags z n h c).pair p = s.pair p := by
  cases p <;> rfl

section
variable {i : Instr} {s : State} {v : Word}

/-- A form that writes one register pair, and its frame. -/
theorem exists_next_of_setPair (p : Reg16) (hexec : exec i s = .next (s.setPair p v)) :
    ∃ t, exec i s = .next t ∧ t.pair p = v ∧ KeepsFlags s t ∧ WritesOnlyPair p s t :=
  ⟨_, hexec, s.pair_setPair p v, s.setPair_writesOnlyPair p v⟩

/-- A form that writes one register pair and then the four flags, and its frame. -/
theorem exists_next_of_setPair_setFlags (p : Reg16) {z n h c : Bool}
    (hexec : exec i s = .next ((s.setPair p v).setFlags z n h c)) :
    ∃ t, exec i s = .next t ∧ t.pair p = v ∧ FlagsAre t z n h c ∧ WritesOnlyPair p s t :=
  ⟨_, hexec, (State.pair_setFlags _ p z n h c).trans (s.pair_setPair p v), ⟨rfl, rfl, rfl, rfl⟩,
    s.setPair_setFlags_writesOnlyPair p v z n h c⟩

end

/-- Settles O8: the first two forms write one pair; the last two write the result of `addSigned` and its flags. -/
theorem loadPair : Obligations.LoadPair := by
  unfold Obligations.LoadPair
  intro s p nn e
  exact ⟨⟨coded_ldPairNN p nn s, exists_next_of_setPair p (exec_ldPairNN p nn s)⟩,
    ⟨⟨rfl, rfl⟩, exists_next_of_setPair .sp rfl⟩,
    ⟨⟨rfl, rfl⟩, exists_next_of_setPair_setFlags .hl rfl⟩,
    ⟨⟨rfl, rfl⟩, exists_next_of_setPair_setFlags .sp rfl⟩⟩

/-! #### Word stores -/

theorem coded_push (q : StackReg) (s : State) : Coded (.push q) [fieldByte 3 (2 * q.code) 5] 4 s :=
  ⟨encode_push q, by cases q <;> rfl⟩

/-- The two bus writes of `MemWrite(a, 2, v)`, low byte first (00_scope.md R14). -/
theorem State.busWrite16_storesTwo (s : State) (a v : Word) : StoresTwo s (s.busWrite16 a v) a v.lo (a + 1) v.hi :=
  ⟨s.busWrite a v.lo, s.busWrite_regs a v.lo, stores_busWrite s a v.lo, stores_busWrite _ (a + 1) v.hi⟩

theorem State.busWrite16_regs (s : State) (a v : Word) : (s.busWrite16 a v).regs = s.regs := by
  simp only [State.busWrite16, State.busWrite_regs]

/-- Bits 3-0 of F read 0 (10_state.md R32). -/
theorem State.f_mod_sixteen (s : State) : s.f.toNat % 16 = 0 := by
  rw [State.f, BitVec.toNat_append, Nat.shiftLeft_eq]
  simp

/-- Bits 7-4 of F are Z, N, H and C (10_state.md R32). -/
theorem State.f_flags (s : State) : s.f.getLsbD 7 = s.regs.fz ∧ s.f.getLsbD 6 = s.regs.fn
    ∧ s.f.getLsbD 5 = s.regs.fh ∧ s.f.getLsbD 4 = s.regs.fc := by
  simp only [State.f, BitVec.getLsbD_append]
  simp

theorem State.stackReg_af_hi (s : State) : (s.stackReg .af).hi = s.regs.a := Word.hi_ofBytes s.regs.a s.f

theorem State.stackReg_af_lo (s : State) : (s.stackReg .af).lo = s.f := Word.lo_ofBytes s.regs.a s.f

/-- Settles O9: `State.busWrite16_storesTwo` and `State.push16_pushes'` give the stores; AF is A above the byte F. -/
theorem storeWord : Obligations.StoreWord := by
  unfold Obligations.StoreWord
  intro s q nn
  refine ⟨⟨⟨rfl, rfl⟩, _, rfl, s.busWrite16_regs nn _, s.busWrite16_storesTwo nn _⟩,
    ⟨coded_push q s, _, exec_push q s, s.push16_pushes' _⟩, s.stackReg_af_hi, ?_⟩
  rw [s.stackReg_af_lo]
  exact ⟨s.f_mod_sixteen, s.f_flags⟩

/-! #### POP -/

theorem coded_pop (q : StackReg) (s : State) : Coded (.pop q) [fieldByte 3 (2 * q.code) 1] 3 s :=
  ⟨encode_pop q, by cases q <;> rfl⟩

theorem State.popTo_keepsFlags (s : State) {q : StackReg} (h : q ≠ .af) : KeepsFlags s (s.popTo q) := by
  cases q with
  | af => exact absurd rfl h
  | bc | de | hl => exact ⟨rfl, rfl, rfl, rfl⟩

/-- POP AF takes the flags from bits 7-4 of the low byte (R256). -/
theorem State.popTo_af_flags (s : State) : FlagsAre (s.popTo .af) (s.topWord.getLsbD 7) (s.topWord.getLsbD 6)
    (s.topWord.getLsbD 5) (s.topWord.getLsbD 4) := ⟨rfl, rfl, rfl, rfl⟩

/-- POP writes no 8-bit register but the halves of its pair. -/
theorem State.popTo_keepsRegs (s : State) (q : StackReg) : KeepsRegs q.halves s (s.popTo q) := by
  intro r hr
  cases q <;> cases r <;> simp [StackReg.halves] at hr <;> rfl

theorem State.popTo_keepsPc (s : State) (q : StackReg) : KeepsPc s (s.popTo q) := by cases q <;> rfl

theorem State.popTo_keepsAllButRegs (s : State) (q : StackReg) : KeepsAllButRegs s (s.popTo q) := by
  cases q <;> exact keepsAllButRegs_of_regs s _

/-- Settles O10: the pair holds the word at SP (`State.stackReg_popTo`) except for AF, whose byte F is the four flags. -/
theorem popPair : Obligations.PopPair := by
  unfold Obligations.PopPair
  intro s q
  refine ⟨coded_pop q s, _, exec_pop q s, s.popTo_sp q, ?pair, ?af, s.popTo_keepsRegs q, s.popTo_keepsPc q,
    s.popTo_keepsAllButRegs q⟩
  case pair =>
    intro h
    exact ⟨s.stackReg_popTo q fun haf => absurd haf h, s.popTo_keepsFlags h⟩
  case af =>
    rintro rfl
    exact ⟨rfl, s.popTo_af_flags⟩

end Sys2Proof.Machine
end

section
/-! PROOFS. 8-bit arithmetic and logic (42_alu_8bit.md R280-R312): the sums, differences and decimal adjustment as facts about
bytes, then each form as one write of A, of a register or of the flags, or as one store. -/

namespace Sys2Proof.Machine

/-! #### The exact sum and difference (R280) -/

/-- A decided flag as a number, in the form that `omega` splits. -/
theorem toNat_decide_cases (p : Prop) [Decidable p] : (p ∧ (decide p).toNat = 1) ∨ (¬ p ∧ (decide p).toNat = 0) := by
  by_cases h : p
  · exact .inl ⟨h, by rw [decide_eq_true h, Bool.toNat_true]⟩
  · exact .inr ⟨h, by rw [decide_eq_false h, Bool.toNat_false]⟩

section
variable (a b : Byte) (cin : Bool)

/-- C is the carry out of bit 7. -/
theorem add8_sum : (add8 a b cin).res.toNat + 256 * (add8 a b cin).c.toNat = a.toNat + b.toNat + cin.toNat := by
  have ha := a.isLt
  have hb := b.isLt
  have hcin := cin.toNat_le
  have hc := toNat_decide_cases (a.toNat + b.toNat + cin.toNat > 0xFF)
  simp only [add8, BitVec.toNat_ofNat]
  omega

/-- H is the carry out of bit 3. -/
theorem add8_lowSum :
    (add8 a b cin).res.toNat % 16 + 16 * (add8 a b cin).h.toNat = a.toNat % 16 + b.toNat % 16 + cin.toNat := by
  have hcin := cin.toNat_le
  have hh := toNat_decide_cases (a.toNat % 16 + b.toNat % 16 + cin.toNat > 0xF)
  simp only [add8, BitVec.toNat_ofNat]
  omega

/-- C is the borrow of the byte. -/
theorem sub8_difference :
    (sub8 a b cin).res.toNat + b.toNat + cin.toNat = a.toNat + 256 * (sub8 a b cin).c.toNat := by
  have ha := a.isLt
  have hb := b.isLt
  have hcin := cin.toNat_le
  have hc := toNat_decide_cases ((a.toNat : Int) - b.toNat - cin.toNat < 0)
  simp only [sub8, BitVec.toNat_ofInt]
  omega

/-- H is the borrow of the low nibble. -/
theorem sub8_lowDifference :
    (sub8 a b cin).res.toNat % 16 + b.toNat % 16 + cin.toNat = a.toNat % 16 + 16 * (sub8 a b cin).h.toNat := by
  have hcin := cin.toNat_le
  have hh := toNat_decide_cases ((a.toNat % 16 : Int) - (b.toNat % 16 : Int) - cin.toNat < 0)
  simp only [sub8, BitVec.toNat_ofInt]
  omega

/-- A difference without carry in, as comparisons: Z says the operands are equal, H and C which is less. -/
theorem sub8_flags : (sub8 a b false).z = decide (a = b)
    ∧ (sub8 a b false).h = decide (a.toNat % 16 < b.toNat % 16) ∧ (sub8 a b false).c = decide (a.toNat < b.toNat) := by
  refine ⟨decide_eq_decide.mpr ?_, decide_eq_decide.mpr ?_, decide_eq_decide.mpr ?_⟩
  · show (sub8 a b false).res = 0 ↔ a = b
    have hdiff := sub8_difference a b false
    have ha := a.isLt
    have hb := b.isLt
    have hres := (sub8 a b false).res.isLt
    have hzero : (0 : Byte).toNat = 0 := rfl
    rw [Bool.toNat_false] at hdiff
    rw [← BitVec.toNat_inj, ← BitVec.toNat_inj]
    omega
  · rw [Bool.toNat_false]
    omega
  · rw [Bool.toNat_false]
    omega

end

/-! #### What an operation on A does -/

section
variable (s : State) (v : Byte) (cin : Bool)

theorem State.setAFlags_writesOnly (o : AluOut) : WritesOnly [.a] s (s.setAFlags o) :=
  s.setReg_setFlags_writesOnly .a o.res o.z o.n o.h o.c

theorem addsToA_setAFlags : AddsToA s (s.setAFlags (add8 (s.reg .a) v cin)) v cin :=
  ⟨add8_sum (s.reg .a) v cin, add8_lowSum (s.reg .a) v cin, rfl, rfl, s.setAFlags_writesOnly _⟩

theorem subtractsFromA_setAFlags : SubtractsFromA s (s.setAFlags (sub8 (s.reg .a) v cin)) v cin :=
  ⟨sub8_difference (s.reg .a) v cin, sub8_lowDifference (s.reg .a) v cin, rfl, rfl, s.setAFlags_writesOnly _⟩

theorem comparesWithA_keepFlags : ComparesWithA s (s.keepFlags (sub8 (s.reg .a) v false)) v := by
  obtain ⟨hz, hh, hc⟩ := sub8_flags (s.reg .a) v
  exact ⟨⟨hz, rfl, hh, hc⟩, s.setFlags_writesOnly _ _ _ _⟩

/-- The meaning of `alu[op]`, by the operation (R281-R304). -/
theorem aluEffect_aluA (op : AluOp) : AluEffect op s (s.aluA op v) v := by
  cases op with
  | add => exact addsToA_setAFlags s v false
  | adc => exact addsToA_setAFlags s v s.regs.fc
  | sub => exact subtractsFromA_setAFlags s v false
  | sbc => exact subtractsFromA_setAFlags s v s.regs.fc
  | and => exact ⟨rfl, ⟨rfl, rfl, rfl, rfl⟩, s.setAFlags_writesOnly (and8 (s.reg .a) v)⟩
  | xor => exact ⟨rfl, ⟨rfl, rfl, rfl, rfl⟩, s.setAFlags_writesOnly (xor8 (s.reg .a) v)⟩
  | or => exact ⟨rfl, ⟨rfl, rfl, rfl, rfl⟩, s.setAFlags_writesOnly (or8 (s.reg .a) v)⟩
  | cp => exact comparesWithA_keepFlags s v

end

/-! #### The three operand forms -/

section
variable (op : AluOp) (r : Reg8) (n : Byte) (s : State)

theorem exec_aluReg : exec (.aluReg op r) s = .next (s.aluA op (s.reg r)) := by cases op <;> cases r <;> rfl

theorem exec_aluAtHL : exec (.aluAtHL op) s = .next (s.aluA op (s.busRead s.hl)) := by cases op <;> rfl

theorem exec_aluN : exec (.aluN op n) s = .next (s.aluA op n) := by cases op <;> rfl

theorem coded_aluReg : Coded (.aluReg op r) [fieldByte 2 op.code r.code] 1 s :=
  ⟨encode_aluReg op r, by cases op <;> cases r <;> rfl⟩

theorem coded_aluAtHL : Coded (.aluAtHL op) [fieldByte 2 op.code 6] 2 s := ⟨encode_aluAtHL op, by cases op <;> rfl⟩

theorem coded_aluN : Coded (.aluN op n) [fieldByte 3 op.code 6, n] 2 s := ⟨encode_aluN op n, by cases op <;> rfl⟩

/-- Every operation of `alu[.]`, on each operand form: the bytes, the duration and the effect. -/
theorem alu_forms :
    (Coded (.aluReg op r) [fieldByte 2 op.code r.code] 1 s
      ∧ ∃ t, exec (.aluReg op r) s = .next t ∧ AluEffect op s t (s.reg r))
    ∧ (Coded (.aluAtHL op) [fieldByte 2 op.code 6] 2 s
      ∧ ∃ t, exec (.aluAtHL op) s = .next t ∧ AluEffect op s t (s.busRead s.hl))
    ∧ (Coded (.aluN op n) [fieldByte 3 op.code 6, n] 2 s
      ∧ ∃ t, exec (.aluN op n) s = .next t ∧ AluEffect op s t n) :=
  ⟨⟨coded_aluReg op r s, _, exec_aluReg op r s, aluEffect_aluA s _ op⟩,
    ⟨coded_aluAtHL op s, _, exec_aluAtHL op s, aluEffect_aluA s _ op⟩,
    ⟨coded_aluN op n s, _, exec_aluN op n s, aluEffect_aluA s n op⟩⟩

end

/-- Settles O12: ADD and ADC write the sum of `add8` (`addsToA_setAFlags`) in each operand form. -/
theorem addToA : Obligations.AddToA := by
  unfold Obligations.AddToA
  intro s op r n _
  exact alu_forms op r n s

/-- Settles O13: SUB and SBC write the difference of `sub8`, and CP its flags alone. -/
theorem subtractFromA : Obligations.SubtractFromA := by
  unfold Obligations.SubtractFromA
  intro s op r n _
  exact alu_forms op r n s

/-- Settles O14: AND, XOR and OR write A and fixed flags but Z. -/
theorem logicOnA : Obligations.LogicOnA := by
  unfold Obligations.LogicOnA
  intro s op r n _
  exact alu_forms op r n s

/-! #### INC and DEC (R305-R308) -/

theorem inc8_res_toNat (v : Byte) (c : Bool) : (inc8 v c).res.toNat = (v.toNat + 1) % 256 := BitVec.toNat_add v 1

theorem dec8_res_toNat (v : Byte) (c : Bool) : (dec8 v c).res.toNat = (v.toNat + 255) % 256 := by
  rw [Nat.add_comm]
  exact BitVec.toNat_sub v 1

section
variable (r : Reg8) (s : State)

theorem exec_incReg : exec (.incReg r) s = .next (s.incReg r) := by cases r <;> rfl

theorem exec_decReg : exec (.decReg r) s = .next (s.decReg r) := by cases r <;> rfl

theorem coded_incReg : Coded (.incReg r) [fieldByte 0 r.code 4] 1 s := ⟨encode_incReg r, by cases r <;> rfl⟩

theorem coded_decReg : Coded (.decReg r) [fieldByte 0 r.code 5] 1 s := ⟨encode_decReg r, by cases r <;> rfl⟩

end

section
variable {i : Instr} {s : State} {o : AluOut}

/-- A form that writes one 8-bit register and the four flags, and its frame. -/
theorem exists_next_of_setReg_keepFlags {r : Reg8} (h : exec i s = .next ((s.setReg r o.res).keepFlags o)) :
    ∃ t, exec i s = .next t ∧ t.reg r = o.res ∧ FlagsAre t o.z o.n o.h o.c ∧ WritesOnly [r] s t :=
  ⟨_, h, s.reg_setReg_setFlags r o.res o.z o.n o.h o.c, ⟨rfl, rfl, rfl, rfl⟩,
    s.setReg_setFlags_writesOnly r o.res o.z o.n o.h o.c⟩

/-- A form that stores a byte and then writes the four flags, with the frame of every store. -/
theorem exists_next_of_busWrite_keepFlags {a : Word} (h : exec i s = .next ((s.busWrite a o.res).keepFlags o)) :
    ∃ t, exec i s = .next t ∧ Stores s t a o.res
      ∧ t.regs = { s.regs with fz := o.z, fn := o.n, fh := o.h, fc := o.c } := by
  refine ⟨_, h, stores_with_regs s a o.res _, ?_⟩
  simp only [State.keepFlags, State.setFlags, State.busWrite_regs]

end

/-- Settles O15: on a register one register write with flags, at HL one store with flags; C is passed through `inc8`. -/
theorem incDecByte : Obligations.IncDecByte := by
  unfold Obligations.IncDecByte
  intro s r
  refine ⟨⟨coded_incReg r s, ?_⟩, ⟨coded_decReg r s, ?_⟩, ?_, ?_⟩
  · obtain ⟨t, hexec, hreg, hflags, hframe⟩ := exists_next_of_setReg_keepFlags (exec_incReg r s)
    refine ⟨t, hexec, ?_, ?_, hframe⟩ <;> rw [hreg]
    · exact inc8_res_toNat (s.reg r) s.regs.fc
    · exact hflags
  · obtain ⟨t, hexec, hreg, hflags, hframe⟩ := exists_next_of_setReg_keepFlags (exec_decReg r s)
    refine ⟨t, hexec, ?_, ?_, hframe⟩ <;> rw [hreg]
    · exact dec8_res_toNat (s.reg r) s.regs.fc
    · exact hflags
  · exact ⟨⟨rfl, rfl⟩, exists_next_of_busWrite_keepFlags (o := inc8 (s.busRead s.hl) s.regs.fc) rfl⟩
  · exact ⟨⟨rfl, rfl⟩, exists_next_of_busWrite_keepFlags (o := dec8 (s.busRead s.hl) s.regs.fc) rfl⟩

/-! #### DAA and the flag operations (R309-R312) -/

section
variable (a : Byte) (h c : Bool)

/-- DAA after an addition: adding 0x60 leaves the low digit, so both tests can read A from before. -/
theorem daaAdjust_add : daaAdjust a false h c =
    (a + (if c || decide (0x99 < a.toNat) then 0x60 else 0) + (if h || decide (9 < a.toNat % 16) then 0x06 else 0),
      c || decide (0x99 < a.toNat)) := by
  have hdigit : (if c || decide (0x99 < a.toNat) then a + 0x60 else a).toNat % 16 = a.toNat % 16 := by
    split <;> bv_omega
  simp only [daaAdjust, Bool.false_eq_true, if_false, gt_iff_lt, hdigit]
  split <;> split <;> simp only [add_zero]

theorem daaAdjust_sub : daaAdjust a true h c =
    (a - (if c = true then 0x60 else 0) - (if h = true then 0x06 else 0), c) := by
  cases h <;> cases c <;> simp [daaAdjust]

end

/-- Settles O16: DAA by the two equations of `daaAdjust`; CPL is an exclusive or with ones; SCF and CCF write flags alone. -/
theorem accumulatorAndFlags : Obligations.AccumulatorAndFlags := by
  unfold Obligations.AccumulatorAndFlags
  intro s
  refine ⟨⟨⟨rfl, rfl⟩, _, rfl, ?add, ?sub, rfl, rfl, rfl, s.setAFlags_writesOnly _⟩,
    ⟨⟨rfl, rfl⟩, _, rfl, ?complement, ⟨rfl, rfl, rfl, rfl⟩, s.setReg_setFlags_writesOnly .a _ _ _ _ _⟩,
    ⟨⟨rfl, rfl⟩, _, rfl, ⟨rfl, rfl, rfl, rfl⟩, s.setFlags_writesOnly _ _ _ _⟩,
    ⟨⟨rfl, rfl⟩, _, rfl, ⟨rfl, rfl, rfl, rfl⟩, s.setFlags_writesOnly _ _ _ _⟩⟩
  case add =>
    intro hn
    show (daaAdjust (s.reg .a) s.regs.fn s.regs.fh s.regs.fc).2 = _
      ∧ (daaAdjust (s.reg .a) s.regs.fn s.regs.fh s.regs.fc).1 = _
    rw [hn, daaAdjust_add]
    simp only [Bool.or_eq_true, decide_eq_true_eq]
    exact ⟨rfl, rfl⟩
  case sub =>
    intro hn
    show (daaAdjust (s.reg .a) s.regs.fn s.regs.fh s.regs.fc).2 = _
      ∧ (daaAdjust (s.reg .a) s.regs.fn s.regs.fh s.regs.fc).1 = _
    rw [hn, daaAdjust_sub]
    exact ⟨rfl, rfl⟩
  case complement =>
    intro i hi
    show (s.reg .a ^^^ 0xFF).getLsbD i = !(s.reg .a).getLsbD i
    have hones : (0xFF : Byte).getLsbD i = true := by interval_cases i <;> rfl
    rw [BitVec.getLsbD_xor, hones, Bool.xor_true]

/-! #### Decimal sums and differences -/

section
variable (r : Byte) (h c : Bool)

/-- The adjusted byte after an addition, as a number: the new carry says whether 0x60 was added. -/
theorem daaAdjust_add_toNat : (daaAdjust r false h c).1.toNat
    = (r.toNat + 0x60 * (daaAdjust r false h c).2.toNat + 0x06 * (h || decide (9 < r.toNat % 16)).toNat) % 256 := by
  rw [daaAdjust_add]
  generalize (c || decide (0x99 < r.toNat)) = high
  generalize (h || decide (9 < r.toNat % 16)) = digit
  have hr : r.toNat % 256 = r.toNat := Nat.mod_eq_of_lt r.isLt
  cases high <;> cases digit <;> simp [hr]

/-- The adjusted byte after a subtraction, as a number: 0xA0 and 0xFA stand for -0x60 and -0x06. -/
theorem daaAdjust_sub_toNat :
    (daaAdjust r true h c).1.toNat = (r.toNat + 0xA0 * c.toNat + 0xFA * h.toNat) % 256 := by
  rw [daaAdjust_sub]
  simp only [BitVec.toNat_sub]
  cases h <;> cases c <;> simp <;> omega

end

section
variable {a n r : Byte} {cin h c : Bool}

/-- The low digit is adjusted when the low digits and the carry in passed 9. -/
theorem digitCarry_toNat (ha : IsBcd a) (hn : IsBcd n)
    (hlow : r.toNat % 16 + 16 * h.toNat = a.toNat % 16 + n.toNat % 16 + cin.toNat) :
    (h || decide (9 < r.toNat % 16)).toNat = (a.toNat % 16 + n.toNat % 16 + cin.toNat) / 10 := by
  obtain ⟨ha1, ha0⟩ := ha
  obtain ⟨hn1, hn0⟩ := hn
  have hcin := cin.toNat_le
  have hdigit := toNat_decide_cases (9 < r.toNat % 16)
  cases h <;> simp only [Bool.toNat_true, Bool.toNat_false, Bool.true_or, Bool.false_or] at hlow ⊢ <;> omega

/-- The whole is adjusted when the decimal sum passed 99. -/
theorem daaAdjust_add_carry_toNat (ha : IsBcd a) (hn : IsBcd n)
    (hsum : r.toNat + 256 * c.toNat = a.toNat + n.toNat + cin.toNat) :
    (daaAdjust r false h c).2.toNat = (bcdValue a + bcdValue n + cin.toNat) / 100 := by
  obtain ⟨ha1, ha0⟩ := ha
  obtain ⟨hn1, hn0⟩ := hn
  have hcin := cin.toNat_le
  have hwhole := toNat_decide_cases (0x99 < r.toNat)
  rw [daaAdjust_add]
  unfold bcdValue
  cases c <;> simp only [Bool.toNat_true, Bool.toNat_false, Bool.true_or, Bool.false_or] at hsum ⊢ <;> omega

/-- DAA makes the binary sum of two decimal bytes their decimal sum, with the carry as its hundred. -/
theorem daaAdjust_decimalSum (ha : IsBcd a) (hn : IsBcd n)
    (hsum : r.toNat + 256 * c.toNat = a.toNat + n.toNat + cin.toNat)
    (hlow : r.toNat % 16 + 16 * h.toNat = a.toNat % 16 + n.toNat % 16 + cin.toNat) :
    IsBcd (daaAdjust r false h c).1
      ∧ bcdValue (daaAdjust r false h c).1 + 100 * (daaAdjust r false h c).2.toNat
        = bcdValue a + bcdValue n + cin.toNat := by
  have hdigit := digitCarry_toNat ha hn hlow
  have hcarry := daaAdjust_add_carry_toNat (h := h) ha hn hsum
  have hres := daaAdjust_add_toNat r h c
  have hcin := cin.toNat_le
  unfold IsBcd bcdValue at *
  omega

/-- DAA makes the binary difference of two decimal bytes their decimal difference: each borrow of 16 in a nibble becomes one of
10 in its digit. -/
theorem daaAdjust_decimalDifference (ha : IsBcd a) (hn : IsBcd n)
    (hdiff : r.toNat + n.toNat + cin.toNat = a.toNat + 256 * c.toNat)
    (hlow : r.toNat % 16 + n.toNat % 16 + cin.toNat = a.toNat % 16 + 16 * h.toNat) :
    IsBcd (daaAdjust r true h c).1
      ∧ bcdValue (daaAdjust r true h c).1 + bcdValue n + cin.toNat
        = bcdValue a + 100 * (daaAdjust r true h c).2.toNat := by
  have hres := daaAdjust_sub_toNat r h c
  have hcarry : (daaAdjust r true h c).2.toNat = c.toNat := by rw [daaAdjust_sub]
  have hcin := cin.toNat_le
  have hh := h.toNat_le
  unfold IsBcd bcdValue at *
  have hdigit : (daaAdjust r true h c).1.toNat % 16 + n.toNat % 16 + cin.toNat = a.toNat % 16 + 10 * h.toNat := by
    omega
  have hhigh : (daaAdjust r true h c).1.toNat / 16 + n.toNat / 16 + h.toNat = a.toNat / 16 + 10 * c.toNat := by
    cases c <;> simp only [Bool.toNat_true, Bool.toNat_false] at * <;> omega
  omega

end

/-- Settles O17: ADC and SBC leave the exact sum or difference in A, N, H and C, and DAA adjusts it by digits. -/
theorem decimalSum : Obligations.DecimalSum := by
  unfold Obligations.DecimalSum
  intro s n ha hn
  refine ⟨⟨s.aluA .adc n, _, rfl, rfl, ?_⟩, ⟨s.aluA .sbc n, _, rfl, rfl, ?_⟩⟩
  · obtain ⟨hsum, hlow, -, -, -⟩ := addsToA_setAFlags s n s.regs.fc
    exact daaAdjust_decimalSum ha hn hsum hlow
  · obtain ⟨hdiff, hlow, -, -, -⟩ := subtractsFromA_setAFlags s n s.regs.fc
    exact daaAdjust_decimalDifference ha hn hdiff hlow

end Sys2Proof.Machine
end

section
/-! PROOFS. 16-bit arithmetic (43_alu_16bit.md R330-R332): the sum and the step of a word as numbers, then each form as one
write of a pair, for ADD HL,rr with the flags. -/

namespace Sys2Proof.Machine

/-! #### Words as numbers -/

section
variable (hl v : Word)

/-- C is the carry out of bit 15. -/
theorem addWord_sum : (addWord hl v).res.toNat + 0x10000 * (addWord hl v).c.toNat = hl.toNat + v.toNat := by
  have hhl := hl.isLt
  have hv := v.isLt
  have hc := toNat_decide_cases (hl.toNat + v.toNat > 0xFFFF)
  simp only [addWord, BitVec.toNat_add]
  omega

/-- H is the carry out of bit 11. -/
theorem addWord_lowSum :
    (addWord hl v).res.toNat % 0x1000 + 0x1000 * (addWord hl v).h.toNat
      = hl.toNat % 0x1000 + v.toNat % 0x1000 := by
  have hh := toNat_decide_cases (hl.toNat % 0x1000 + v.toNat % 0x1000 > 0xFFF)
  simp only [addWord, BitVec.toNat_add]
  omega

theorem Word.toNat_add_one : (v + 1).toNat = (v.toNat + 1) % 0x10000 := BitVec.toNat_add v 1

/-- One less is 0xFFFF more, modulo 2^16. -/
theorem Word.toNat_sub_one : (v - 1).toNat = (v.toNat + 0xFFFF) % 0x10000 := by
  rw [Nat.add_comm]
  exact BitVec.toNat_sub v 1

end

/-! #### What each form of four opcodes does -/

section
variable (p : Reg16) (s : State)

theorem exec_addHLPair : exec (.addHLPair p) s = .next (s.addToHl (s.pair p)) := by cases p <;> rfl

theorem exec_incPair : exec (.incPair p) s = .next (s.setPair p (s.pair p + 1)) := by cases p <;> rfl

theorem exec_decPair : exec (.decPair p) s = .next (s.setPair p (s.pair p - 1)) := by cases p <;> rfl

theorem coded_addHLPair : Coded (.addHLPair p) [fieldByte 0 (2 * p.code + 1) 1] 2 s :=
  ⟨encode_addHLPair p, by cases p <;> rfl⟩

theorem coded_incPair : Coded (.incPair p) [fieldByte 0 (2 * p.code) 3] 2 s := ⟨encode_incPair p, by cases p <;> rfl⟩

theorem coded_decPair : Coded (.decPair p) [fieldByte 0 (2 * p.code + 1) 3] 2 s :=
  ⟨encode_decPair p, by cases p <;> rfl⟩

end

/-- Settles O18: ADD HL,rr writes HL and the flags of `addWord` with Z passed through; INC and DEC write one pair. -/
theorem pairArithmetic : Obligations.PairArithmetic := by
  unfold Obligations.PairArithmetic
  intro s p
  refine ⟨⟨coded_addHLPair p s, ?add⟩, ⟨coded_incPair p s, ?inc⟩, ⟨coded_decPair p s, ?dec⟩⟩
  case add =>
    obtain ⟨t, hexec, hhl, ⟨hz, hn, hh, hc⟩, hframe⟩ := exists_next_of_setPair_setFlags .hl (exec_addHLPair p s)
    change t.hl = _ at hhl
    refine ⟨t, hexec, ?_, ?_, hz, hn, hframe⟩
    · rw [hhl, hc]
      exact addWord_sum s.hl (s.pair p)
    · rw [hhl, hh]
      exact addWord_lowSum s.hl (s.pair p)
  case inc =>
    obtain ⟨t, hexec, hpair, hkeeps⟩ := exists_next_of_setPair p (exec_incPair p s)
    exact ⟨t, hexec, hpair ▸ Word.toNat_add_one (s.pair p), hkeeps⟩
  case dec =>
    obtain ⟨t, hexec, hpair, hkeeps⟩ := exists_next_of_setPair p (exec_decPair p s)
    exact ⟨t, hexec, hpair ▸ Word.toNat_sub_one (s.pair p), hkeeps⟩

end Sys2Proof.Machine
end

section
/-! PROOFS. Rotates, shifts and bits (44_rotate_shift_bit.md R350-R376): the bits of `Rot` and of RES and SET as facts about
bytes, then each form as one write of a register or of the flags, or as one store. -/

namespace Sys2Proof.Machine

/-! #### The bits of a rotated byte (R350) -/

section
variable (k : RotOp) (v : Byte) (cin : Bool)

/-- The carry that RL shifts in at bit 0. -/
theorem getLsbD_carryInBit0 (i : Nat) : (if cin then 0x01 else 0x00 : Byte).getLsbD i = (decide (i = 0) && cin) := by
  cases cin <;> simp [BitVec.getLsbD_one]

/-- The carry that RR shifts in at bit 7. -/
theorem getLsbD_carryInBit7 {i : Nat} (hi : i < 8) :
    (if cin then 0x80 else 0x00 : Byte).getLsbD i = (decide (i = 7) && cin) := by
  cases cin <;> interval_cases i <;> rfl

/-- The sign bit that SRA keeps at bit 7. -/
theorem getLsbD_and_signBit {i : Nat} (hi : i < 8) : (v &&& 0x80).getLsbD i = (decide (i = 7) && v.getLsbD 7) := by
  rw [BitVec.getLsbD_and]
  interval_cases i <;> simp

theorem rot8_isRot : IsRot k v cin (rot8 k v cin).1 := by
  intro i hi
  cases k with
  | rlc | rrc | swap =>
    simp only [rot8, rotBit, BitVec.getLsbD_or, BitVec.getLsbD_shiftLeft, BitVec.getLsbD_ushiftRight]
    interval_cases i <;> simp
  | sla | srl =>
    simp only [rot8, rotBit, BitVec.getLsbD_shiftLeft, BitVec.getLsbD_ushiftRight]
    interval_cases i <;> simp
  | rl =>
    simp only [rot8, rotBit, BitVec.getLsbD_or, BitVec.getLsbD_shiftLeft, getLsbD_carryInBit0]
    interval_cases i <;> simp
  | rr =>
    simp only [rot8, rotBit, BitVec.getLsbD_or, BitVec.getLsbD_ushiftRight, getLsbD_carryInBit7 cin hi]
    interval_cases i <;> simp
  | sra =>
    simp only [rot8, rotBit, BitVec.getLsbD_or, BitVec.getLsbD_ushiftRight, getLsbD_and_signBit v hi]
    interval_cases i <;> simp

theorem rot8_carry : (rot8 k v cin).2 = rotCarry k v := by cases k <;> rfl

end

/-! #### The bits that RES and SET write (R373-R376) -/

section
variable (b : Fin 8) (v : Byte)

theorem getLsbD_bitMask (i : Nat) : (bitMask b).getLsbD i = decide (i = b.val) := by
  have hmask : bitMask b = BitVec.twoPow 8 b.val := rfl
  rw [hmask, BitVec.getLsbD_twoPow, decide_eq_true b.isLt, Bool.true_and]
  exact decide_eq_decide.mpr eq_comm

theorem bitResult_res_isBitSet : IsBitSet b false v (bitResult .res b v) := by
  intro i hi
  rw [bitResult, BitVec.getLsbD_and, BitVec.getLsbD_not, getLsbD_bitMask]
  by_cases h : i = b.val <;> simp [h, hi]

theorem bitResult_set_isBitSet : IsBitSet b true v (bitResult .set b v) := by
  intro i _
  rw [bitResult, BitVec.getLsbD_or, getLsbD_bitMask]
  by_cases h : i = b.val <;> simp [h]

end

/-! #### What each form of several opcodes does -/

section
variable (k : RotOp) (r : Reg8) (s : State)

theorem exec_rotReg : exec (.rotReg k r) s = .next (s.rotReg k r) := by cases k <;> rfl

theorem exec_rotAtHL : exec (.rotAtHL k) s = .next (s.rotAtHl k) := by cases k <;> rfl

theorem coded_rotReg : Coded (.rotReg k r) [0xCB, fieldByte 0 k.code r.code] 2 s :=
  ⟨(Instr.selectedBy_rotReg k r).encode_fieldByte, by cases k <;> rfl⟩

theorem coded_rotAtHL : Coded (.rotAtHL k) [0xCB, fieldByte 0 k.code 6] 4 s :=
  ⟨(Instr.selectedBy_rotAtHL k).encode_fieldByte, by cases k <;> rfl⟩

end

/-! #### What a form does to the registers it writes -/

section
variable {i : Instr} {s : State}

/-- A form that rotates A and clears Z whatever the result (R351-R354). -/
theorem exists_next_of_rotA {k : RotOp} (h : exec i s = .next (s.rotA k)) :
    ∃ t, exec i s = .next t ∧ IsRot k (s.reg .a) s.regs.fc (t.reg .a)
      ∧ FlagsAre t false false false (rotCarry k (s.reg .a)) ∧ WritesOnly [.a] s t :=
  ⟨_, h, rot8_isRot k (s.reg .a) s.regs.fc, ⟨rfl, rfl, rfl, rot8_carry k (s.reg .a) s.regs.fc⟩,
    s.setReg_setFlags_writesOnly .a _ _ _ _ _⟩

/-- A form that tests a bit writes the flags alone (R371, R372). -/
theorem exists_next_of_testBit {b : Fin 8} {v : Byte} (h : exec i s = .next (s.testBit b v)) :
    ∃ t, exec i s = .next t ∧ FlagsAre t (!v.getLsbD b.val) false true s.regs.fc ∧ WritesOnly [] s t :=
  ⟨_, h, ⟨rfl, rfl, rfl, rfl⟩, s.setFlags_writesOnly _ _ _ _⟩

/-- A form that writes one bit of a register (R373, R375). -/
theorem exists_next_of_setReg_isBitSet {b : Fin 8} {x : Bool} {r : Reg8} {w : Byte}
    (hbit : IsBitSet b x (s.reg r) w) (h : exec i s = .next (s.setReg r w)) :
    ∃ t, exec i s = .next t ∧ IsBitSet b x (s.reg r) (t.reg r) ∧ KeepsFlags s t ∧ WritesOnly [r] s t := by
  obtain ⟨t, hexec, rfl, hkeeps⟩ := exists_next_of_setReg h
  exact ⟨t, hexec, hbit, hkeeps⟩

end

/-- Settles O19: the four forms are `State.rotA` with the operation named beside each. -/
theorem rotateA : Obligations.RotateA := by
  unfold Obligations.RotateA
  intro s i b k h
  simp only [List.mem_cons, List.not_mem_nil, or_false, Prod.mk.injEq] at h
  obtain ⟨rfl, rfl, rfl⟩ | ⟨rfl, rfl, rfl⟩ | ⟨rfl, rfl, rfl⟩ | ⟨rfl, rfl, rfl⟩ := h
    <;> exact ⟨⟨rfl, rfl⟩, exists_next_of_rotA rfl⟩

/-- Settles O20: one register write with the flags of `rotOut`. -/
theorem rotateRegister : Obligations.RotateRegister := by
  unfold Obligations.RotateRegister
  intro s k r
  obtain ⟨t, hexec, hreg, ⟨hz, hn, hh, hc⟩, hframe⟩ := exists_next_of_setReg_keepFlags (exec_rotReg k r s)
  refine ⟨coded_rotReg k r s, t, hexec, ?_, ⟨?_, hn, hh, ?_⟩, hframe⟩
  · rw [hreg]
    exact rot8_isRot k (s.reg r) s.regs.fc
  · rw [hreg]
    exact hz
  · exact hc.trans (rot8_carry k (s.reg r) s.regs.fc)

/-- Settles O21: one store of the rotated byte with the flags of `rotOut`. -/
theorem rotateMemory : Obligations.RotateMemory := by
  unfold Obligations.RotateMemory
  intro s k
  obtain ⟨t, hexec, hstores, hregs⟩ := exists_next_of_busWrite_keepFlags (exec_rotAtHL k s)
  refine ⟨coded_rotAtHL k s, t, _, hexec, rot8_isRot k (s.busRead s.hl) s.regs.fc, hstores, ?_⟩
  rw [hregs, ← rot8_carry k (s.busRead s.hl) s.regs.fc]
  rfl

/-- Settles O22: BIT writes the flags alone; RES and SET write the byte of `bitResult` to the register or store it at HL. -/
theorem bitOperations : Obligations.BitOperations := by
  unfold Obligations.BitOperations
  intro s b r
  exact ⟨⟨⟨(Instr.selectedBy_bitReg .bit b r).encode_fieldByte, rfl⟩, exists_next_of_testBit rfl⟩,
    ⟨⟨(Instr.selectedBy_bitAtHL .bit b).encode_fieldByte, rfl⟩, exists_next_of_testBit rfl⟩,
    ⟨⟨(Instr.selectedBy_bitReg .res b r).encode_fieldByte, rfl⟩,
      exists_next_of_setReg_isBitSet (bitResult_res_isBitSet b (s.reg r)) rfl⟩,
    ⟨⟨(Instr.selectedBy_bitReg .set b r).encode_fieldByte, rfl⟩,
      exists_next_of_setReg_isBitSet (bitResult_set_isBitSet b (s.reg r)) rfl⟩,
    ⟨⟨(Instr.selectedBy_bitAtHL .res b).encode_fieldByte, rfl⟩, _, _, rfl,
      bitResult_res_isBitSet b (s.busRead s.hl), s.busWrite_regs _ _, stores_busWrite s _ _⟩,
    ⟨⟨(Instr.selectedBy_bitAtHL .set b).encode_fieldByte, rfl⟩, _, _, rfl,
      bitResult_set_isBitSet b (s.busRead s.hl), s.busWrite_regs _ _, stores_busWrite s _ _⟩⟩

end Sys2Proof.Machine
end

section
/-! PROOFS. Control transfer (45_control_flow.md R400-R415): each conditional form is `State.onlyIf` of the unconditional one,
and each unconditional form is one write of PC, one push with PC at the target, or one pop into PC. -/

namespace Sys2Proof.Machine

/-! #### What each form with a condition or a vector does -/

section
variable (cc : Cond) (nn : Word) (e : Byte) (y : Fin 8) (s : State)

theorem exec_jpCond : exec (.jpCond cc nn) s = .next (s.onlyIf (s.cond cc) (s.setPc nn)) := by cases cc <;> rfl

theorem exec_jrCond : exec (.jrCond cc e) s = .next (s.onlyIf (s.cond cc) (s.jumpRel e)) := by cases cc <;> rfl

theorem exec_callCond : exec (.callCond cc nn) s = .next (s.onlyIf (s.cond cc) (s.callTo nn)) := by cases cc <;> rfl

theorem exec_retCond : exec (.retCond cc) s = .next (s.onlyIf (s.cond cc) s.returnTo) := by cases cc <;> rfl

theorem exec_rst : exec (.rst y) s = .next (s.callTo (BitVec.ofNat 16 (8 * y.val))) := by fin_cases y <;> rfl

theorem coded_jpCond :
    Coded (.jpCond cc nn) [fieldByte 3 cc.code 2, nn.lo, nn.hi] (if s.cond cc then 4 else 3) s :=
  ⟨encode_jpCond cc nn, by cases cc <;> rfl⟩

theorem coded_jrCond : Coded (.jrCond cc e) [fieldByte 0 (cc.code + 4) 0, e] (if s.cond cc then 3 else 2) s :=
  ⟨encode_jrCond cc e, by cases cc <;> rfl⟩

theorem coded_callCond :
    Coded (.callCond cc nn) [fieldByte 3 cc.code 4, nn.lo, nn.hi] (if s.cond cc then 6 else 3) s :=
  ⟨encode_callCond cc nn, by cases cc <;> rfl⟩

theorem coded_retCond : Coded (.retCond cc) [fieldByte 3 cc.code 0] (if s.cond cc then 5 else 2) s :=
  ⟨encode_retCond cc, by cases cc <;> rfl⟩

theorem coded_rst : Coded (.rst y) [fieldByte 3 y.val 7] 4 s := ⟨encode_rst y, by fin_cases y <;> rfl⟩

end

/-! #### What a transfer does to the state -/

section
variable (s : State)

theorem State.onlyIf_true (t : State) : s.onlyIf true t = t := rfl

theorem State.onlyIf_false (t : State) : s.onlyIf false t = s := rfl

/-- A jump not taken writes PC as it is. -/
theorem State.onlyIf_setPc (b : Bool) (v : Word) : s.onlyIf b (s.setPc v) = s.setPc (if b then v else s.regs.pc) := by
  cases b <;> rfl

theorem State.callTo_pushes (target : Word) : Pushes s (s.callTo target) s.regs.pc target :=
  s.push16_pushes s.regs.pc target

theorem State.returnTo_eq : s.returnTo = { s with regs := { s.regs with pc := s.topWord, sp := s.regs.sp + 2 } } := rfl

/-- IME is set at once, and the delayed enable is cleared (R412). -/
theorem State.returnFromInterrupt_eq :
    s.returnFromInterrupt = { s.returnTo with ctl := { s.ctl with ime := true, imeSched := false } } := rfl

end

/-- Settles O23: a jump is one write of PC, of the target or of PC itself (`State.onlyIf_setPc`). -/
theorem jumps : Obligations.Jumps := by
  unfold Obligations.Jumps
  intro s cc nn e
  refine ⟨by cases cc <;> rfl, ⟨⟨rfl, rfl⟩, rfl⟩, ⟨coded_jpCond cc nn s, ?jp⟩, ⟨⟨rfl, rfl⟩, rfl⟩, ⟨⟨rfl, rfl⟩, rfl⟩,
    ⟨coded_jrCond cc e s, ?jr⟩, ?sext⟩
  case jp => rw [exec_jpCond, State.onlyIf_setPc]
  case jr => rw [exec_jrCond, State.jumpRel, State.onlyIf_setPc]
  case sext => exact BitVec.toInt_signExtend_of_le (by decide)

/-- Settles O24: a call is `Push16` with PC at the target (`State.callTo_pushes`), and nothing where it is not taken. -/
theorem calls : Obligations.Calls := by
  unfold Obligations.Calls
  intro s cc nn y
  refine ⟨⟨⟨rfl, rfl⟩, _, rfl, s.callTo_pushes nn⟩, ⟨coded_callCond cc nn s, _, exec_callCond cc nn s, ?taken, ?notTaken⟩,
    ⟨coded_rst y s, _, exec_rst y s, s.callTo_pushes _⟩⟩
  case taken =>
    intro h
    rw [h, State.onlyIf_true]
    exact s.callTo_pushes nn
  case notTaken =>
    intro h
    rw [h, State.onlyIf_false]

/-- Settles O25: a return is the pop of PC (`State.returnTo_eq`), for RETI with IME set on top of it. -/
theorem returns : Obligations.Returns := by
  unfold Obligations.Returns
  intro s cc u
  have hret : s.returnTo = u := s.returnTo_eq
  refine ⟨⟨⟨rfl, rfl⟩, congrArg Host.Outcome.next hret⟩, ⟨coded_retCond cc s, ?retCond⟩, ⟨⟨rfl, rfl⟩, ?reti⟩⟩
  case retCond => rw [exec_retCond, State.onlyIf, hret]
  case reti =>
    rw [← hret]
    exact congrArg Host.Outcome.next s.returnFromInterrupt_eq

end Sys2Proof.Machine
end

section
/-! PROOFS. System and control (46_system.md R440-R446), and the step's fetch (60_exceptions.md R500): an instruction step runs
what `Fetch8` reads, as many bytes as the instruction has, with and without a byte to repeat. -/

namespace Sys2Proof

/-- The field value 6 alone names no register (R162). -/
theorem Reg8.ofCode_eq_none_iff {z : Nat} (hz : z < 8) : Reg8.ofCode z = none ↔ z = 6 := by
  interval_cases z <;> decide

/-- Every instruction has an opcode. -/
theorem encode_length_pos (i : Instr) : 0 < (encode i).length := by cases i <;> exact Nat.succ_pos _

end Sys2Proof

namespace Sys2Proof.Machine

/-! #### HALT (R441) -/

/-- The three conditions of the HALT bug, as a proposition. -/
theorem State.halt_eq (s : State) : s.halt = { s with ctl :=
    if s.haltBug = true ∧ s.ctl.ime = false ∧ s.pending ≠ 0 then { s.ctl with haltbugPending := true }
    else { s.ctl with halted := true } } := by
  unfold State.halt
  have hcond : (s.haltBug && !s.ctl.ime && s.pending != 0) = true
      ↔ s.haltBug = true ∧ s.ctl.ime = false ∧ s.pending ≠ 0 := by simp [and_assoc]
  by_cases h : s.haltBug = true ∧ s.ctl.ime = false ∧ s.pending ≠ 0
  · rw [if_pos (hcond.2 h), if_pos h]
  · rw [if_neg (mt hcond.1 h), if_neg h]

/-- Settles O26: each is one control update, for STOP with the divider cleared; HALT by its two outcomes (`State.halt_eq`). -/
theorem systemControl : Obligations.SystemControl := by
  unfold Obligations.SystemControl
  intro s z
  exact ⟨⟨⟨rfl, rfl⟩, rfl⟩, ⟨⟨rfl, rfl⟩, rfl⟩, ⟨⟨rfl, rfl⟩, rfl⟩, ⟨⟨rfl, rfl⟩, rfl⟩,
    ⟨⟨rfl, rfl⟩, congrArg Host.Outcome.next s.halt_eq⟩⟩

/-! #### The locked CPU (R446) -/

theorem exec_illegal {i : Instr} (s : State) (h : i ∈ Instr.illegals) : duration i s = 1 ∧ exec i s = .next s.lock := by
  unfold Instr.illegals at h
  fin_cases h <;> exact ⟨rfl, rfl⟩

theorem State.hostAct_ctl (s : State) (a : HostAction) : (s.hostAct a).ctl = s.ctl := by
  cases a with
  | setKeys buttons dirs => exact State.joypadCheck_ctl _
  | clearFrameDone | takeLines | takeSamples => rfl

section
variable {s : State}

theorem step_locked (h : s.ctl.locked = true) : step s = .next (s.advance 1) := by
  unfold step stepBody
  rw [if_pos h]

/-- By induction on the steps: each advances the devices, which keep the lock and the rest. -/
theorem run_locked (n : Nat) (h : s.ctl.locked = true) :
    ∃ t : State, core.run n s = .next t ∧ t.ctl = s.ctl ∧ t.regs = s.regs ∧ t.mem = s.mem ∧ t.bank = s.bank
      ∧ t.cycles = s.cycles + n := by
  induction n generalizing s with
  | zero => exact ⟨s, rfl, rfl, rfl, rfl, rfl, rfl⟩
  | succ n ih =>
    have hrun : core.run (n + 1) s = core.run n (s.advance 1) := by
      have hstep : core.step s = .next (s.advance 1) := step_locked h
      simp only [Host.Core.run, hstep]
    have hlocked : (s.advance 1).ctl.locked = true := by rw [State.advance_ctl, h]
    obtain ⟨t, ht, hctl, hregs, hmem, hbank, hcycles⟩ := ih hlocked
    refine ⟨t, hrun.trans ht, hctl.trans (s.advance_ctl 1), hregs.trans (s.advance_regs 1), hmem.trans (s.advance_mem 1),
      hbank.trans (s.advance_bank 1), ?_⟩
    rw [hcycles, State.advance_cycles, Nat.add_assoc, Nat.add_comm 1 n]

end

/-- Settles O27: an illegal opcode is `State.lock`, and a locked step advances the devices by one M-cycle. -/
theorem illegalLocks : Obligations.IllegalLocks := by
  unfold Obligations.IllegalLocks
  exact ⟨fun _ s h => exec_illegal s h, rfl, fun s h => ⟨step_locked h, s.hostAct_ctl⟩, fun _ n h => run_locked n h⟩

/-! #### The extended set (R445) -/

/-- 2 M-cycles on a register (R170). -/
theorem cbDuration_of_reg {b : Byte} {r : Reg8} (h : Reg8.ofCode (b.toNat % 8) = some r) : cbDuration b = 2 := by
  have hz : b.toNat % 8 ≠ 6 := fun h6 => by rw [h6] at h; cases h
  rw [cbDuration, if_neg hz]

/-- 3 M-cycles for BIT on `(HL)`, 4 for the others (R170). -/
theorem cbDuration_of_atHL {b : Byte} (h : Reg8.ofCode (b.toNat % 8) = none) :
    cbDuration b = if b.toNat / 64 = 1 then 3 else 4 := by
  have hz : b.toNat % 8 = 6 := (Reg8.ofCode_eq_none_iff (Nat.mod_lt _ (by decide))).1 h
  rw [cbDuration, if_pos hz]

section
variable (b : Byte) (s : State)

/-- The decoder and the meaning of the prefix row choose by the same fields: the group, and register or `(HL)`. -/
theorem exec_decodeCb : exec (decodeCb b) s = .next (s.runCb b) := by
  have hx : b.toNat / 64 < 4 := by omega
  unfold decodeCb State.runCb
  dsimp only
  generalize b.toNat / 64 = x at hx
  cases Reg8.ofCode (b.toNat % 8) with
  | none =>
    interval_cases x
    exacts [exec_rotAtHL _ s, rfl, rfl, rfl]
  | some r =>
    interval_cases x
    exacts [exec_rotReg _ r s, rfl, rfl, rfl]

/-- The eight kinds of row, by the group and by register or `(HL)`. -/
theorem duration_decodeCb : duration (decodeCb b) s = cbDuration b := by
  unfold decodeCb
  dsimp only
  split
  next hz => exact (coded_rotReg _ _ s).2.trans (cbDuration_of_reg hz).symm
  next hx hz => rw [cbDuration_of_atHL hz, hx]; exact (coded_rotAtHL _ s).2
  next hz => rw [cbDuration_of_reg hz]; rfl
  next hx hz => rw [cbDuration_of_atHL hz, hx]; rfl
  next hz => rw [cbDuration_of_reg hz]; rfl
  next hx hz => rw [cbDuration_of_atHL hz, hx]; rfl
  next hz _ _ _ => rw [cbDuration_of_reg hz]; rfl
  next hz _ hx _ => rw [cbDuration_of_atHL hz, if_neg hx]; rfl

end

/-- Settles O28: the prefix row runs the row that `decodeCb` names (`exec_decodeCb`, `duration_decodeCb`). -/
theorem prefixSelects : Obligations.PrefixSelects := by
  unfold Obligations.PrefixSelects
  intro s b rest
  exact ⟨(exec_decodeCb b s).symm, (duration_decodeCb b s).symm, rfl, rfl, ⟨_, rfl⟩,
    (Instr.selectedBy_decodeCb b).wellFormed⟩

/-! #### `Fetch8` and the instruction's bytes (00_scope.md R15) -/

/-- The state with no byte to repeat (10_state.md R45). -/
def State.clearRepeat (s : State) : State := { s with ctl := { s.ctl with haltbugPending := false } }

/-- The state after `n` reads by `Fetch8`. -/
def State.afterFetches : Nat → State → State
  | 0, s => s
  | n + 1, s => State.afterFetches n s.fetch8.2

theorem State.busRead_setPc (s : State) (v a : Word) : (s.setPc v).busRead a = s.busRead a := s.busRead_with_regs _ a

theorem State.busRead_with_ctl (s : State) (c : Control) (a : Word) :
    ({ s with ctl := c } : State).busRead a = s.busRead a := State.busRead_view (sameView_regs_ctl s s.regs c) a

section
variable {s : State}

theorem State.fetch8_of_not_repeat (h : s.ctl.haltbugPending = false) :
    s.fetch8 = (s.busRead s.regs.pc, s.setPc (s.regs.pc + 1)) := by
  rw [State.fetch8, h]
  rfl

theorem State.fetch8_of_repeat (h : s.ctl.haltbugPending = true) : s.fetch8 = (s.busRead s.regs.pc, s.clearRepeat) := by
  rw [State.fetch8, if_pos h]
  rfl

theorem State.afterFetches_of_not_repeat (h : s.ctl.haltbugPending = false) (n : Nat) :
    State.afterFetches n s = s.setPc (s.regs.pc + BitVec.ofNat 16 n) := by
  induction n generalizing s with
  | zero => exact congrArg s.setPc (BitVec.add_zero s.regs.pc).symm
  | succ n ih =>
    have hpc : s.regs.pc + 1 + BitVec.ofNat 16 n = s.regs.pc + BitVec.ofNat 16 (n + 1) := by
      rw [BitVec.add_assoc, Nat.add_comm n 1, BitVec.ofNat_add]
      rfl
    have hnext : (s.setPc (s.regs.pc + 1)).ctl.haltbugPending = false := h
    rw [State.afterFetches, State.fetch8_of_not_repeat h, ih hnext, State.setPc_regs_pc, hpc]
    rfl

/-- The first read clears the flag and leaves PC; every later one moves PC. -/
theorem State.afterFetches_of_repeat (h : s.ctl.haltbugPending = true) {n : Nat} (hn : 0 < n) :
    State.afterFetches n s = s.clearRepeat.setPc (s.regs.pc + BitVec.ofNat 16 (n - 1)) := by
  obtain ⟨m, rfl⟩ := Nat.exists_eq_succ_of_ne_zero (Nat.ne_of_gt hn)
  rw [State.afterFetches, State.fetch8_of_repeat h]
  exact State.afterFetches_of_not_repeat (s := s.clearRepeat) rfl m

/-- The fetch decodes the three bytes that `Fetch8` would read in a row, and reads as many of them as the instruction has. -/
theorem State.fetchInstr_of_decode {i : Instr} {rest : List Byte}
    (h : decode [s.fetch8.1, s.fetch8.2.fetch8.1, s.fetch8.2.fetch8.2.fetch8.1] = .ok (i, rest)) :
    s.fetchInstr = (i, State.afterFetches (encode i).length s) := by
  unfold State.fetchInstr
  obtain ⟨op, hlen, hl, rfl⟩ | ⟨op, b, hlen, hl, rfl⟩ | ⟨op, b1, b2, hlen, hl, rfl⟩ := decode_cases h
  · obtain ⟨rfl, -⟩ := List.cons.inj hl
    rw [(encode_decodeBytes_one _ hlen).2]
    simp only [hlen]
    rfl
  · obtain ⟨rfl, rfl, -⟩ : _ ∧ _ ∧ _ := by simpa using hl
    rw [(encode_decodeBytes_two hlen _).2]
    simp only [hlen]
    rfl
  · obtain ⟨rfl, rfl, rfl, -⟩ : _ ∧ _ ∧ _ ∧ _ := by simpa using hl
    rw [(encode_decodeBytes_three hlen _ _).2]
    simp only [hlen]
    rfl

/-- With a byte to repeat: the opcode is read twice. -/
theorem State.fetchInstr_of_repeat {i : Instr} {rest : List Byte} (hbug : s.ctl.haltbugPending = true)
    (h : decode [s.busRead s.regs.pc, s.busRead s.regs.pc, s.busRead (s.regs.pc + 1)] = .ok (i, rest)) :
    s.fetchInstr = (i, s.clearRepeat.setPc (s.regs.pc + BitVec.ofNat 16 ((encode i).length - 1))) := by
  have hread (a : Word) : s.clearRepeat.busRead a = s.busRead a := s.busRead_with_ctl _ a
  have hsecond : s.clearRepeat.fetch8 = (s.busRead s.regs.pc, s.clearRepeat.setPc (s.regs.pc + 1)) := by
    rw [State.fetch8_of_not_repeat rfl, hread]
    rfl
  have hthird : (s.clearRepeat.setPc (s.regs.pc + 1)).fetch8.1 = s.busRead (s.regs.pc + 1) := by
    rw [State.fetch8_of_not_repeat rfl, State.busRead_setPc, hread]
    rfl
  have hdecode : decode [s.fetch8.1, s.fetch8.2.fetch8.1, s.fetch8.2.fetch8.2.fetch8.1] = .ok (i, rest) := by
    rw [State.fetch8_of_repeat hbug, hsecond, hthird, h]
  rw [State.fetchInstr_of_decode hdecode, State.afterFetches_of_repeat hbug (encode_length_pos i)]

end

/-! #### An instruction step (60_exceptions.md R500, R501) -/

/-- Waking writes `halted` and `stopped` alone. -/
theorem State.wake_eq_with_ctl (s : State) : s.wake =
    { s with ctl := { s.ctl with halted := s.wake.ctl.halted, stopped := s.wake.ctl.stopped } } := by
  unfold State.wake
  split <;> rfl

/-- An instruction step is what is left of the four kinds. -/
theorem step_of_runsInstr {s : State} (h : s.runsInstr) :
    step s = runDecoded s.ctl.imeSched s.wake.fetchInstr.1 s.wake.fetchInstr.2 := by
  obtain ⟨hlocked, hdispatch, hruns⟩ := h
  have hidle : ¬ (s.wake.ctl.halted = true ∨ s.wake.ctl.stopped = true) := by
    unfold State.wake
    split
    next hp => simpa using hruns.resolve_left (not_not.2 hp)
    next => simp
  have himeSched : s.wake.ctl.imeSched = s.ctl.imeSched := by rw [State.wake_eq_with_ctl]
  unfold step stepBody
  rw [hlocked, if_neg Bool.false_ne_true]
  dsimp only
  rw [if_neg hdispatch, if_neg hidle, himeSched]

/-- Settles O30: an instruction step (`step_of_runsInstr`) whose fetch repeats a byte (`State.fetchInstr_of_repeat`). -/
theorem stepRepeatsByte : Obligations.StepRepeatsByte := by
  unfold Obligations.StepRepeatsByte
  intro s i rest hrun hbug hdecode
  have hbug' : s.wake.ctl.haltbugPending = true := by rw [State.wake_eq_with_ctl, hbug]
  have hregs : s.wake.regs = s.regs := by rw [State.wake_eq_with_ctl]
  have hread (a : Word) : s.wake.busRead a = s.busRead a := by rw [State.wake_eq_with_ctl, State.busRead_with_ctl]
  have hfetch := State.fetchInstr_of_repeat (s := s.wake) hbug' (by rw [hregs, hread, hread, hdecode])
  rw [step_of_runsInstr hrun, hfetch, hregs]
  rfl

end Sys2Proof.Machine
end

section
/-! PROOFS. The step algorithm (60_exceptions.md R500-R512): an ordinary fetch, waking and idling, taking an interrupt, and the
delayed enable of EI. -/

namespace Sys2Proof.Machine

/-! #### The ordinary fetch (00_scope.md R15, 10_state.md R35) -/

/-- What the decoder accepts is an instruction (30_encoding.md R173). -/
theorem wellFormed_of_decode {l rest : List Byte} {i : Instr} (h : decode l = .ok (i, rest)) : i.wellFormed = true :=
  (encodeOfDecode l rest i h).1

section
variable {s : State}

/-- With no byte to repeat, the three reads go up from PC. -/
theorem State.fetchInstr_of_not_repeat {i : Instr} {rest : List Byte} (hbug : s.ctl.haltbugPending = false)
    (h : decode [s.busRead s.regs.pc, s.busRead (s.regs.pc + 1), s.busRead (s.regs.pc + 2)] = .ok (i, rest)) :
    s.fetchInstr = (i, s.setPc (s.regs.pc + BitVec.ofNat 16 (encode i).length)) := by
  have hread (v : Word) : (s.setPc v).fetch8 = (s.busRead v, s.setPc (v + 1)) := by
    have hv : (s.setPc v).ctl.haltbugPending = false := hbug
    rw [State.fetch8_of_not_repeat hv, State.busRead_setPc]
    rfl
  have hpc : s.regs.pc + 1 + 1 = s.regs.pc + 2 := BitVec.add_assoc _ _ _
  have hdecode : decode [s.fetch8.1, s.fetch8.2.fetch8.1, s.fetch8.2.fetch8.2.fetch8.1] = .ok (i, rest) := by
    rw [State.fetch8_of_not_repeat hbug, hread, hread, hpc, h]
  rw [State.fetchInstr_of_decode hdecode, State.afterFetches_of_not_repeat hbug]

theorem State.wake_regs (s : State) : s.wake.regs = s.regs := by rw [State.wake_eq_with_ctl]

theorem State.wake_ime (s : State) : s.wake.ctl.ime = s.ctl.ime := by rw [State.wake_eq_with_ctl]

theorem State.wake_imeSched (s : State) : s.wake.ctl.imeSched = s.ctl.imeSched := by rw [State.wake_eq_with_ctl]

theorem State.wake_of_pending (h : s.pending ≠ 0) : s.wake = s.awake := if_neg h

theorem State.wake_of_not_pending (h : s.pending = 0) : s.wake = s := if_pos h

/-- An instruction step in the ordinary way: the decoded instruction, from the woken state with PC past it. -/
theorem step_of_fetches {i : Instr} (h : s.fetches i) :
    step s = runDecoded s.ctl.imeSched i (s.wake.setPc (s.regs.pc + BitVec.ofNat 16 (encode i).length)) := by
  obtain ⟨hrun, hbug, rest, hdecode⟩ := h
  have hbug' : s.wake.ctl.haltbugPending = false := by rw [State.wake_eq_with_ctl, hbug]
  have hread (a : Word) : s.wake.busRead a = s.busRead a := by rw [State.wake_eq_with_ctl, State.busRead_with_ctl]
  have hfetch := State.fetchInstr_of_not_repeat hbug' (by rw [s.wake_regs, hread, hread, hread, hdecode])
  rw [step_of_runsInstr hrun, hfetch, s.wake_regs]

end

/-- Settles O29: the ordinary fetch (`step_of_fetches`), of an instruction that the decoder accepts. -/
theorem stepRunsDecodedInstruction : Obligations.StepRunsDecodedInstruction := by
  unfold Obligations.StepRunsDecodedInstruction
  intro s i h
  have hstep := step_of_fetches h
  obtain ⟨-, -, rest, hdecode⟩ := h
  exact ⟨wellFormed_of_decode hdecode, hstep⟩

/-! #### Waking and idling (60_exceptions.md R501) -/

section
variable {s : State}

theorem step_dispatch (hlocked : s.ctl.locked = false) (hpend : s.pending ≠ 0) (hime : s.ctl.ime = true) :
    step s = .next ((s.awake.dispatch s.pending).advance 5) := by
  unfold step stepBody
  rw [hlocked, if_neg Bool.false_ne_true]
  dsimp only
  rw [if_pos ⟨hpend, hime⟩, State.wake_of_pending hpend]

/-- The CPU idles: locked, or halted or stopped with nothing to wake it. -/
theorem step_idle (h : s.ctl.locked = true ∨ (s.pending = 0 ∧ (s.ctl.halted = true ∨ s.ctl.stopped = true))) :
    step s = .next (s.advance 1) := by
  cases hlocked : s.ctl.locked with
  | true => exact step_locked hlocked
  | false =>
    obtain ⟨hpend, hhalted⟩ := h.resolve_left (by simp [hlocked])
    have hnone : ¬ (s.pending ≠ 0 ∧ s.ctl.ime = true) := fun hp => hp.1 hpend
    unfold step stepBody
    rw [hlocked, if_neg Bool.false_ne_true]
    dsimp only
    rw [if_neg hnone, State.wake_of_not_pending hpend, if_pos hhalted]

theorem runsInstr_of_pending (hlocked : s.ctl.locked = false) (hpend : s.pending ≠ 0) (hime : s.ctl.ime = false) :
    s.runsInstr := by
  have hnone : ¬ (s.pending ≠ 0 ∧ s.ctl.ime = true) := fun hp => by simp [hime] at hp
  exact ⟨hlocked, hnone, .inl hpend⟩

theorem step_wakes (hlocked : s.ctl.locked = false) (hpend : s.pending ≠ 0) (hime : s.ctl.ime = false) :
    step s = runDecoded s.ctl.imeSched s.awake.fetchInstr.1 s.awake.fetchInstr.2 := by
  rw [step_of_runsInstr (runsInstr_of_pending hlocked hpend hime), State.wake_of_pending hpend]

end

/-- Settles O31: with an interrupt pending the step is the one of the awake state, by IME (`step_wakes`, `step_dispatch`); an
idle step (`step_idle`) is one M-cycle of the devices, which keep the CPU and the memories. -/
theorem wakeAndIdle : Obligations.WakeAndIdle := by
  unfold Obligations.WakeAndIdle
  refine ⟨fun s hlocked hpend => ⟨?same, step_wakes hlocked hpend, step_dispatch hlocked hpend⟩, fun s hidle => ?idle⟩
  case same =>
    have hlocked' : s.awake.ctl.locked = false := hlocked
    have hpend' : s.awake.pending ≠ 0 := hpend
    cases hime : s.ctl.ime with
    | false => exact (step_wakes hlocked hpend hime).trans (step_wakes hlocked' hpend' hime).symm
    | true => exact (step_dispatch hlocked hpend hime).trans (step_dispatch hlocked' hpend' hime).symm
  case idle =>
    exact ⟨_, step_idle hidle, rfl, s.advance_cycles 1, s.advance_regs 1, s.advance_ctl 1, s.advance_mem 1, s.advance_bank 1,
      s.advance_ie 1⟩

/-! #### Taking an interrupt (60_exceptions.md R510-R512) -/

/-- The vectors are taken in a fixed order, the lowest pending bit first (R512). -/
theorem lowestBit_spec : ∀ p : BitVec 5, p ≠ 0 →
    lowestBit p < 5 ∧ p.getLsbD (lowestBit p) = true ∧ ∀ j, j < lowestBit p → p.getLsbD j = false := by
  decide

/-- `Dispatch` pushes PC from the state with the IF bit, IME and the delayed enable cleared. -/
theorem State.dispatch_pushes (s : State) (pend : BitVec 5) :
    Pushes ((s.acknowledge (lowestBit pend)).setIme false) (s.dispatch pend) s.regs.pc (vectorOf (lowestBit pend)) :=
  State.push16_pushes _ s.regs.pc _

/-- R511. -/
theorem vectorOf_eq (k : Nat) : vectorOf k = BitVec.ofNat 16 (0x40 + 8 * k) := by
  rw [BitVec.ofNat_add]
  rfl

/-- Settles O32: the step is the dispatch of the awake state (`step_dispatch`), of the lowest pending bit (`lowestBit_spec`). -/
theorem interruptDispatch : Obligations.InterruptDispatch := by
  unfold Obligations.InterruptDispatch
  intro s hlocked hpend hime
  obtain ⟨hlt, hset, hlow⟩ := lowestBit_spec s.pending hpend
  refine ⟨_, _, hlt, hset, hlow, step_dispatch hlocked hpend hime, ?_⟩
  rw [← vectorOf_eq]
  exact s.awake.dispatch_pushes s.pending

/-! #### IME and the delayed enable (60_exceptions.md R503) -/

section
variable (s : State)

theorem State.push16_ctl (v : Word) : (s.push16 v).ctl = s.ctl := by
  simp only [State.push16, State.busWrite_ctl, State.setSp_ctl]

theorem State.onlyIf_ctl (b : Bool) {t : State} (h : t.ctl = s.ctl) : (s.onlyIf b t).ctl = s.ctl := by
  cases b with
  | false => rfl
  | true => exact h

theorem State.runCb_ctl (v : Byte) : (s.runCb v).ctl = s.ctl := by
  unfold State.runCb
  dsimp only
  split <;> simp [State.rotReg, State.rotAtHl, State.testBit, State.keepFlags]

/-- IME and the delayed enable are as they were. -/
def KeepsEnable (t : State) : Prop := t.ctl.ime = s.ctl.ime ∧ t.ctl.imeSched = s.ctl.imeSched

variable {s}

theorem KeepsEnable.of_ctl {t : State} (h : t.ctl = s.ctl) : KeepsEnable s t :=
  ⟨congrArg Control.ime h, congrArg Control.imeSched h⟩

theorem State.halt_keepsEnable : KeepsEnable s s.halt := by
  rw [State.halt_eq, KeepsEnable]
  split <;> exact ⟨rfl, rfl⟩

/-- Only EI, DI and RETI write IME or the delayed enable; HALT, STOP and the illegal opcodes write other control bits, and
every other instruction none. -/
theorem exec_keepsEnable {i : Instr} (hei : i ≠ .ei) (hdi : i ≠ .di) (hreti : i ≠ .reti) :
    ∃ t, exec i s = .next t ∧ KeepsEnable s t := by
  cases i with
  | ei => exact absurd rfl hei
  | di => exact absurd rfl hdi
  | reti => exact absurd rfl hreti
  | halt => exact ⟨_, rfl, State.halt_keepsEnable⟩
  | prefix_cb v => exact ⟨_, rfl, .of_ctl (s.runCb_ctl v)⟩
  | jp_nz_nn | jp_z_nn | jp_nc_nn | jp_c_nn | jr_nz_e | jr_z_e | jr_nc_e | jr_c_e
  | ret_nz | ret_z | ret_nc | ret_c => exact ⟨_, rfl, .of_ctl (s.onlyIf_ctl _ rfl)⟩
  | call_nz_nn | call_z_nn | call_nc_nn | call_c_nn => exact ⟨_, rfl, .of_ctl (s.onlyIf_ctl _ (s.push16_ctl _))⟩
  | call_nn | rst_00 | rst_08 | rst_10 | rst_18 | rst_20 | rst_28 | rst_30 | rst_38
  | push_bc | push_de | push_hl | push_af => exact ⟨_, rfl, .of_ctl (s.push16_ctl _)⟩
  | rlc_r r | rrc_r r | rl_r r | rr_r r | sla_r r | sra_r r | swap_r r | srl_r r | res_r _ r | set_r _ r =>
    exact ⟨_, rfl, .of_ctl (s.setReg_ctl r _)⟩
  | ld_atNN_sp => exact ⟨_, rfl, .of_ctl ((State.busWrite_ctl _ _ _).trans (s.busWrite_ctl _ _))⟩
  | ld_atBC_a | ld_atDE_a | ld_atHLinc_a | ld_atHLdec_a | ld_atHL_n | ld_atHL_b | ld_atHL_c | ld_atHL_d | ld_atHL_e
  | ld_atHL_h | ld_atHL_l | ld_atHL_a | ldh_atN_a | ld_atNN_a | ld_atC_a | inc_atHL | dec_atHL
  | rlc_atHL | rrc_atHL | rl_atHL | rr_atHL | sla_atHL | sra_atHL | swap_atHL | srl_atHL | res_atHL | set_atHL =>
    exact ⟨_, rfl, .of_ctl (s.busWrite_ctl _ _)⟩
  | _ => exact ⟨_, rfl, rfl, rfl⟩

end

section
variable {s t u v : State}

/-- What an instruction does to IME and the delayed enable (46_system.md R443, R444, 45_control_flow.md R412). -/
theorem exec_enable {i : Instr} (h : exec i u = .next v) :
    v.ctl.ime = (if i = .di then false else if i = .reti then true else u.ctl.ime)
      ∧ v.ctl.imeSched = (if i = .ei then true else if i = .di ∨ i = .reti then false else u.ctl.imeSched) := by
  by_cases hdi : i = .di
  · subst hdi; cases h; exact ⟨rfl, rfl⟩
  by_cases hreti : i = .reti
  · subst hreti; cases h; exact ⟨rfl, rfl⟩
  by_cases hei : i = .ei
  · subst hei; cases h; exact ⟨rfl, rfl⟩
  obtain ⟨w, hw, hime, hsched⟩ := exec_keepsEnable (s := u) hei hdi hreti
  obtain rfl : w = v := Host.Outcome.next.inj (hw.symm.trans h)
  simp [hdi, hreti, hei, hime, hsched]

/-- A delayed enable takes effect where it was armed before the instruction and is armed still (60_exceptions.md R503). -/
theorem State.retireEi_enable (armed : Bool) :
    (v.retireEi armed).ctl.ime = (armed && v.ctl.imeSched || v.ctl.ime)
      ∧ (v.retireEi armed).ctl.imeSched = (!armed && v.ctl.imeSched) := by
  unfold State.retireEi
  cases armed <;> cases hsched : v.ctl.imeSched <;> simp [hsched]

/-- IME and the delayed enable after the step of an instruction that is fetched: only an EI that finds the delay clear leaves it
set. -/
theorem step_enable {i : Instr} (hstep : step s = .next t) (h : s.fetches i) :
    t.ctl.ime = (if i = .di then false else if i = .reti ∨ s.ctl.imeSched = true then true else s.ctl.ime)
      ∧ t.ctl.imeSched = decide (i = .ei ∧ s.ctl.imeSched = false) := by
  have hrun := (step_of_fetches h).symm.trans hstep
  obtain ⟨v, hexec, -⟩ := exec_touches i (s.wake.setPc (s.regs.pc + BitVec.ofNat 16 (encode i).length))
  obtain ⟨hime, hsched⟩ := exec_enable hexec
  rw [State.setPc_ctl, s.wake_ime] at hime
  rw [State.setPc_ctl, s.wake_imeSched] at hsched
  unfold runDecoded at hrun
  rw [hexec] at hrun
  cases hrun
  obtain ⟨hime', hsched'⟩ := State.retireEi_enable (v := v) s.ctl.imeSched
  rw [State.advance_ctl, hime', hsched', hime, hsched]
  by_cases hdi : i = .di
  · subst hdi; simp
  by_cases hreti : i = .reti
  · subst hreti; simp
  · cases s.ctl.imeSched <;> simp [hdi, hreti]

end

/-- Settles O33: an instruction step by `step_enable`, an idle step by `step_idle`, a dispatch by `step_dispatch`. -/
theorem eiDelay : Obligations.EiDelay := by
  unfold Obligations.EiDelay
  intro s t i hstep
  refine ⟨fun hfetch hsched => ?ei, fun hfetch hsched => ?armed, fun hfetch hsched hei => ?unarmed, fun hidle => ?idle,
    fun hlocked hpend hime => ?dispatch⟩
  case ei =>
    obtain ⟨hime, hsched'⟩ := step_enable hstep hfetch
    exact ⟨by simp [hime, hsched], by simp [hsched', hsched]⟩
  case armed =>
    obtain ⟨hime, hsched'⟩ := step_enable hstep hfetch
    exact ⟨by simp [hime, hsched], by simp [hsched', hsched]⟩
  case unarmed =>
    obtain ⟨hime, hsched'⟩ := step_enable hstep hfetch
    exact ⟨by simp [hsched', hei], by simp [hime, hsched]⟩
  case idle =>
    obtain rfl := Host.Outcome.next.inj ((step_idle hidle).symm.trans hstep)
    rw [State.advance_ctl]
    exact ⟨rfl, rfl⟩
  case dispatch =>
    obtain rfl := Host.Outcome.next.inj ((step_dispatch hlocked hpend hime).symm.trans hstep)
    rw [State.advance_ctl, State.dispatch, State.setPc_ctl, State.push16_ctl]
    exact ⟨rfl, rfl⟩

end Sys2Proof.Machine
end

section
/-! PROOFS. The M-cycle of the devices (60_exceptions.md R505): the IF bits that each of the four ticks sets, what each tick
depends on, and the order of the ticks. -/

namespace Sys2Proof.Machine

/-! #### The bits that a tick sets in IF -/

/-- The timer counts TIMA in the M-cycle that starts here (R540). -/
abbrev Timer.counts (x : Timer) : Prop := x.tac.getLsbD 2 = true ∧ (x.sys.toNat + 1) % timerPeriod x.tac = 0

/-- The IF bits that an M-cycle of the timer requests: interrupt 2 on an overflow (R541). -/
def Timer.requests (x : Timer) : BitVec 5 := if x.counts ∧ x.tima = 0xFF then 4 else 0

/-- The IF bits that an M-cycle of the serial unit requests: interrupt 3 at the end of a transfer (R575). -/
def Serial.requests (x : Serial) : BitVec 5 := if x.count = 1 then 8 else 0

/-- The M-cycle that starts here enters line 144 (R612). -/
abbrev Picture.entersVblank (p : Picture) : Prop := p.u = 113 ∧ (p.ly + 1) % 154 = 144

/-- An enabled STAT event falls in the M-cycle that starts here: mode 0, 1 or 2, or the compare (R613). -/
abbrev Picture.statEvent (p : Picture) : Prop :=
  (p.u = 62 ∧ p.ly < 144 ∧ p.statEn.getLsbD 0 = true)
    ∨ (p.entersVblank ∧ p.statEn.getLsbD 1 = true)
    ∨ (p.u = 113 ∧ (p.ly + 1) % 154 < 144 ∧ p.statEn.getLsbD 2 = true)
    ∨ (p.u = 113 ∧ (p.ly + 1) % 154 = p.lyc.toNat ∧ p.statEn.getLsbD 3 = true)

/-- The IF bits that an M-cycle of the PictureTimer requests: none while the display is off (R631). -/
def Picture.requests (p : Picture) : BitVec 5 :=
  if p.lcdc.getLsbD 7 = true then (if p.entersVblank then 1 else 0) ||| (if p.statEvent then 2 else 0) else 0

section
variable (s : State)

theorem timerPeriod_cases (tac : BitVec 3) :
    timerPeriod tac = 256 ∨ timerPeriod tac = 4 ∨ timerPeriod tac = 16 ∨ timerPeriod tac = 64 := by
  unfold timerPeriod
  split <;> simp

/-- Every period divides 2^14, so `sys` and its successor modulo 2^14 reach the same multiples (R540). -/
theorem Timer.sys_succ_mod_period (x : Timer) :
    (x.sys + 1).toNat % timerPeriod x.tac = (x.sys.toNat + 1) % timerPeriod x.tac := by
  have hsucc : (x.sys + 1).toNat = (x.sys.toNat + 1) % 16384 := BitVec.toNat_add x.sys 1
  obtain h | h | h | h := timerPeriod_cases x.tac <;> rw [hsucc, h] <;> omega

/-- One M-cycle of the timer: `sys` goes on, and TIMA counts where it does (R540). -/
theorem State.timerTick_eq : s.timerTick =
    if s.timer.counts then State.timaInc { s with timer := { s.timer with sys := s.timer.sys + 1 } }
    else { s with timer := { s.timer with sys := s.timer.sys + 1 } } := by
  have hcond : (s.timer.tac.getLsbD 2 && (s.timer.sys + 1).toNat % timerPeriod s.timer.tac == 0) = true
      ↔ s.timer.counts := by
    rw [s.timer.sys_succ_mod_period]
    simp
  unfold State.timerTick
  exact if_congr hcond rfl rfl

/-- A tick of the timer that counts, by whether TIMA overflows (R541). -/
theorem State.timerTick_of_counts (h : s.timer.counts) : s.timerTick =
    if s.timer.tima = 0xFF then
      State.request { s with timer := { s.timer with sys := s.timer.sys + 1, tima := s.timer.tma } } 2
    else { s with timer := { s.timer with sys := s.timer.sys + 1, tima := s.timer.tima + 1 } } := by
  rw [State.timerTick_eq, if_pos h]
  rfl

theorem State.timerTick_of_not_counts (h : ¬ s.timer.counts) : s.timerTick =
    { s with timer := { s.timer with sys := s.timer.sys + 1 } } := by
  rw [State.timerTick_eq, if_neg h]

theorem State.timerTick_iflag : s.timerTick.irq.iflag = s.irq.iflag ||| s.timer.requests := by
  unfold Timer.requests
  by_cases h : s.timer.counts
  · rw [State.timerTick_of_counts s h]
    by_cases hov : s.timer.tima = 0xFF
    · rw [if_pos hov, if_pos ⟨h, hov⟩]
      rfl
    · rw [if_neg hov, if_neg fun hc => hov hc.2]
      exact BitVec.or_zero.symm
  · rw [State.timerTick_of_not_counts s h, if_neg fun hc => h hc.1]
    exact BitVec.or_zero.symm

theorem State.serialTick_iflag : s.serialTick.irq.iflag = s.irq.iflag ||| s.ser.requests := by
  unfold State.serialTick Serial.requests
  by_cases h0 : s.ser.count = 0
  · simp [h0]
  · by_cases h1 : s.ser.count = 1
    · simp [h1]
    · simp [h0, h1]

/-! The PictureTimer's requests, from the innermost operation outwards. -/

theorem State.statRequest_iflag (b : Nat) :
    (s.statRequest b).irq.iflag = s.irq.iflag ||| if s.pic.statEn.getLsbD b = true then 2 else 0 := by
  unfold State.statRequest
  split
  · rfl
  · exact BitVec.or_zero.symm

theorem State.lineCompare_pic : s.lineCompare.pic = { s.pic with coinc := s.pic.ly == s.pic.lyc.toNat } := by
  unfold State.lineCompare
  dsimp only
  split
  · rw [State.statRequest_pic]
  · rfl

theorem State.lineCompare_iflag : s.lineCompare.irq.iflag =
    s.irq.iflag ||| if s.pic.ly = s.pic.lyc.toNat ∧ s.pic.statEn.getLsbD 3 = true then 2 else 0 := by
  unfold State.lineCompare
  by_cases h : s.pic.ly = s.pic.lyc.toNat
  · simp [h, State.statRequest_iflag]
  · simp [h]

/-- Requests in either order. -/
theorem iflag_or_right_comm (x y z : BitVec 5) : x ||| y ||| z = x ||| z ||| y := by
  rw [BitVec.or_assoc, BitVec.or_comm y, BitVec.or_assoc]

/-- Two reasons for one request. -/
theorem ite_or_ite {p q : Prop} [Decidable p] [Decidable q] (x : BitVec 5) :
    (if p then x else 0#5) ||| (if q then x else 0#5) = if p ∨ q then x else 0#5 := by
  by_cases hp : p <;> by_cases hq : q <;> simp [hp, hq]

/-- What `LineStart()` requests (R603, R612, R613). -/
theorem State.lineStart_iflag : s.lineStart.irq.iflag = s.irq.iflag |||
    ((if s.pic.ly = 144 then 1 else 0)
      ||| if (s.pic.ly = 144 ∧ s.pic.statEn.getLsbD 1 = true) ∨ (s.pic.ly < 144 ∧ s.pic.statEn.getLsbD 2 = true)
          ∨ (s.pic.ly = s.pic.lyc.toNat ∧ s.pic.statEn.getLsbD 3 = true) then 2 else 0) := by
  by_cases h0 : s.pic.ly = 0
  · simp [State.lineStart, h0, State.statRequest_iflag, State.lineCompare_iflag, State.lineCompare_pic, BitVec.or_assoc,
      ite_or_ite, or_comm]
  obtain h | h | h := Nat.lt_trichotomy s.pic.ly 144
  · have hne : s.pic.ly ≠ 144 := by omega
    simp [State.lineStart, h0, h, hne, State.statRequest_iflag, State.lineCompare_iflag, State.lineCompare_pic,
      BitVec.or_assoc, ite_or_ite, or_comm]
  · simp [State.lineStart, h, State.statRequest_iflag, State.lineCompare_iflag, State.lineCompare_pic,
      iflag_or_right_comm _ _ 1#5]
    simp [BitVec.or_assoc, ite_or_ite, or_comm]
  · have hlt : ¬ s.pic.ly < 144 := by omega
    have hne : s.pic.ly ≠ 144 := by omega
    simp [State.lineStart, h0, hlt, hne, State.lineCompare_iflag, State.lineCompare_pic]

end

/-! #### One M-cycle of the PictureTimer, by its position (R602, R631) -/

section
variable {s : State}

theorem State.ppuTick_off (hoff : s.pic.lcdc.getLsbD 7 = false) : s.ppuTick = s.offTick := by
  rw [State.ppuTick, State.displayOn, hoff]
  rfl

variable (hon : s.pic.lcdc.getLsbD 7 = true)
include hon

/-- The end of a line. -/
theorem State.ppuTick_lineStart (hu : s.pic.u = 113) :
    s.ppuTick = State.lineStart { s with pic := { s.pic with u := 0, ly := (s.pic.ly + 1) % 154 } } := by
  have hnext : s.pic.u + 1 = 114 := by omega
  rw [State.ppuTick, State.displayOn, if_pos hon, State.lineTick, if_pos hnext]

/-- Mode 3 of a visible line begins at unit 20. -/
theorem State.ppuTick_transfer (hly : s.pic.ly < 144) (hu : s.pic.u = 19) :
    s.ppuTick = State.windowCount (State.emitLine { s with pic := { s.pic with u := 20, mode := .transfer } }) := by
  rw [State.ppuTick, State.displayOn, if_pos hon, State.lineTick, hu]
  simp [hly]

/-- Mode 0 of a visible line begins at unit 63. -/
theorem State.ppuTick_hblank (hly : s.pic.ly < 144) (hu : s.pic.u = 62) :
    s.ppuTick = State.statRequest { s with pic := { s.pic with u := 63, mode := .hblank } } 0 := by
  rw [State.ppuTick, State.displayOn, if_pos hon, State.lineTick, hu]
  simp [hly]

/-- Everywhere else only the unit moves. -/
theorem State.ppuTick_within (h113 : s.pic.u ≠ 113) (h19 : ¬ (s.pic.ly < 144 ∧ s.pic.u = 19))
    (h62 : ¬ (s.pic.ly < 144 ∧ s.pic.u = 62)) : s.ppuTick = { s with pic := { s.pic with u := s.pic.u + 1 } } := by
  rw [State.ppuTick, State.displayOn, if_pos hon, State.lineTick]
  dsimp only
  rw [if_neg (by omega), if_neg (by omega), if_neg (by omega)]

end

/-- The four positions that those equations tell apart. -/
theorem Picture.position_cases (p : Picture) :
    p.u = 113 ∨ (p.ly < 144 ∧ p.u = 19) ∨ (p.ly < 144 ∧ p.u = 62)
      ∨ (p.u ≠ 113 ∧ ¬ (p.ly < 144 ∧ p.u = 19) ∧ ¬ (p.ly < 144 ∧ p.u = 62)) := by
  omega

section
variable (s : State)

theorem State.windowCount_pic : s.windowCount.pic =
    { s.pic with winLine := if s.windowOn then s.pic.winLine + 1 else s.pic.winLine } := by
  unfold State.windowCount
  split <;> rfl

theorem State.ppuTick_iflag : s.ppuTick.irq.iflag = s.irq.iflag ||| s.pic.requests := by
  unfold Picture.requests
  cases hon : s.pic.lcdc.getLsbD 7 with
  | false =>
    rw [State.ppuTick_off hon, State.offTick_irq]
    exact BitVec.or_zero.symm
  | true =>
    rw [if_pos rfl]
    obtain hu | ⟨hly, hu⟩ | ⟨hly, hu⟩ | ⟨h113, h19, h62⟩ := s.pic.position_cases
    · rw [State.ppuTick_lineStart hon hu, State.lineStart_iflag]
      simp [Picture.entersVblank, Picture.statEvent, hu]
    · rw [State.ppuTick_transfer hon hly hu, State.windowCount_irq]
      simp [Picture.entersVblank, Picture.statEvent, hu]
    · rw [State.ppuTick_hblank hon hly hu, State.statRequest_iflag]
      simp [Picture.entersVblank, Picture.statEvent, hly, hu]
    · rw [State.ppuTick_within hon h113 h19 h62]
      have hmode0 : ¬ (s.pic.u = 62 ∧ s.pic.ly < 144 ∧ s.pic.statEn.getLsbD 0 = true) := fun h => h62 ⟨h.2.1, h.1⟩
      simp only [Picture.entersVblank, Picture.statEvent, h113, hmode0, false_and, or_self, if_false]
      exact BitVec.or_zero.symm

end

/-! #### What a tick depends on -/

section
variable {s t : State}

theorem State.timerTick_timer_congr (h : t.timer = s.timer) : t.timerTick.timer = s.timerTick.timer := by
  rw [State.timerTick_eq, State.timerTick_eq, h]
  split
  · unfold State.timaInc
    dsimp only
    split <;> rfl
  · rfl

theorem State.serialTick_ser_congr (h : t.ser = s.ser) (hc : t.cycles = s.cycles) : t.serialTick.ser = s.serialTick.ser := by
  unfold State.serialTick
  rw [h, hc]
  split
  · exact h
  · split <;> rfl

theorem State.ppuTick_pic_congr (h : t.pic = s.pic) (hm : t.mem = s.mem) : t.ppuTick.pic = s.ppuTick.pic := by
  cases hon : s.pic.lcdc.getLsbD 7 with
  | false =>
    rw [State.ppuTick_off hon, State.ppuTick_off (by rw [h, hon]), State.offTick, State.offTick, h]
    split <;> rfl
  | true =>
    have hon' : t.pic.lcdc.getLsbD 7 = true := by rw [h, hon]
    obtain hu | ⟨hly, hu⟩ | ⟨hly, hu⟩ | ⟨h113, h19, h62⟩ := s.pic.position_cases
    · rw [State.ppuTick_lineStart hon hu, State.ppuTick_lineStart hon' (h ▸ hu)]
      simp only [State.lineStart_pic, h, hm]
    · rw [State.ppuTick_transfer hon hly hu, State.ppuTick_transfer hon' (h ▸ hly) (h ▸ hu)]
      simp only [State.windowCount_pic, State.windowOn, State.emitLine, State.lineRecord, h, hm]
      rfl
    · rw [State.ppuTick_hblank hon hly hu, State.ppuTick_hblank hon' (h ▸ hly) (h ▸ hu)]
      simp only [State.statRequest_pic, h]
    · rw [State.ppuTick_within hon h113 h19 h62, State.ppuTick_within hon' (h ▸ h113) (h ▸ h19) (h ▸ h62), h]

theorem State.apuTick_snd_congr (h : t.snd = s.snd) (hm : t.mem = s.mem) (hp : t.samplePeriod = s.samplePeriod)
    (hc : t.cycles = s.cycles) : t.apuTick.snd = s.apuTick.snd := by
  have hsample : t.sampleTick.snd = s.sampleTick.snd := by
    simp only [State.sampleTick, State.sampleRecord, h, hm, hp]
  unfold State.apuTick
  dsimp only
  rw [hsample, State.sampleTick_cycles, State.sampleTick_cycles, hc]
  split
  · rfl
  · exact hsample

end

/-! #### The order of the ticks -/

/-- Two states are the same if their parts are, the interrupt registers taken apart. -/
theorem State.ext_parts {s t : State} (regs : s.regs = t.regs) (ctl : s.ctl = t.ctl) (cycles : s.cycles = t.cycles)
    (iflag : s.irq.iflag = t.irq.iflag) (ie : s.irq.ie = t.irq.ie) (timer : s.timer = t.timer) (joy : s.joy = t.joy)
    (ser : s.ser = t.ser) (pic : s.pic = t.pic) (snd : s.snd = t.snd) (bank : s.bank = t.bank) (mem : s.mem = t.mem)
    (bootRom : s.bootRom = t.bootRom) (bootOff : s.bootOff = t.bootOff)
    (mapperUnsupported : s.mapperUnsupported = t.mapperUnsupported) (haltBug : s.haltBug = t.haltBug)
    (samplePeriod : s.samplePeriod = t.samplePeriod) : s = t := by
  obtain ⟨_, _, _, ⟨_, _⟩, _, _, _, _, _, _, _, _, _, _, _, _⟩ := s
  obtain ⟨_, _, _, ⟨_, _⟩, _, _, _, _, _, _, _, _, _, _, _, _⟩ := t
  dsimp only at *
  subst_vars
  rfl

section
variable (s : State)

theorem State.timerTick_frame :
    s.timerTick = { s with timer := s.timerTick.timer, irq := { s.irq with iflag := s.timerTick.irq.iflag } } := by
  apply State.ext_parts <;> simp

theorem State.serialTick_frame :
    s.serialTick = { s with ser := s.serialTick.ser, irq := { s.irq with iflag := s.serialTick.irq.iflag } } := by
  apply State.ext_parts <;> simp

theorem State.ppuTick_frame :
    s.ppuTick = { s with pic := s.ppuTick.pic, irq := { s.irq with iflag := s.ppuTick.irq.iflag } } := by
  apply State.ext_parts <;> simp

theorem State.apuTick_frame : s.apuTick = { s with snd := s.apuTick.snd } := by
  apply State.ext_parts <;> simp

/-! Two ticks in either order: neither reads the other's unit, and the IF bits are set by disjunction. -/

theorem State.timerTick_serialTick : s.timerTick.serialTick = s.serialTick.timerTick := by
  have htimer : s.serialTick.timerTick.timer = s.timerTick.timer := State.timerTick_timer_congr s.serialTick_timer
  have hser : s.timerTick.serialTick.ser = s.serialTick.ser := State.serialTick_ser_congr s.timerTick_ser s.timerTick_cycles
  apply State.ext_parts <;> simp [htimer, hser, State.timerTick_iflag, State.serialTick_iflag, iflag_or_right_comm]

theorem State.timerTick_ppuTick : s.timerTick.ppuTick = s.ppuTick.timerTick := by
  have htimer : s.ppuTick.timerTick.timer = s.timerTick.timer := State.timerTick_timer_congr s.ppuTick_timer
  have hpic : s.timerTick.ppuTick.pic = s.ppuTick.pic := State.ppuTick_pic_congr s.timerTick_pic s.timerTick_mem
  apply State.ext_parts <;> simp [htimer, hpic, State.timerTick_iflag, State.ppuTick_iflag, iflag_or_right_comm]

theorem State.timerTick_apuTick : s.timerTick.apuTick = s.apuTick.timerTick := by
  have htimer : s.apuTick.timerTick.timer = s.timerTick.timer := State.timerTick_timer_congr s.apuTick_timer
  have hsnd : s.timerTick.apuTick.snd = s.apuTick.snd :=
    State.apuTick_snd_congr s.timerTick_snd s.timerTick_mem s.timerTick_samplePeriod s.timerTick_cycles
  apply State.ext_parts <;> simp [htimer, hsnd, State.timerTick_iflag]

theorem State.serialTick_ppuTick : s.serialTick.ppuTick = s.ppuTick.serialTick := by
  have hser : s.ppuTick.serialTick.ser = s.serialTick.ser := State.serialTick_ser_congr s.ppuTick_ser s.ppuTick_cycles
  have hpic : s.serialTick.ppuTick.pic = s.ppuTick.pic := State.ppuTick_pic_congr s.serialTick_pic s.serialTick_mem
  apply State.ext_parts <;> simp [hser, hpic, State.serialTick_iflag, State.ppuTick_iflag, iflag_or_right_comm]

theorem State.serialTick_apuTick : s.serialTick.apuTick = s.apuTick.serialTick := by
  have hser : s.apuTick.serialTick.ser = s.serialTick.ser := State.serialTick_ser_congr s.apuTick_ser s.apuTick_cycles
  have hsnd : s.serialTick.apuTick.snd = s.apuTick.snd :=
    State.apuTick_snd_congr s.serialTick_snd s.serialTick_mem s.serialTick_samplePeriod s.serialTick_cycles
  apply State.ext_parts <;> simp [hser, hsnd, State.serialTick_iflag]

theorem State.ppuTick_apuTick : s.ppuTick.apuTick = s.apuTick.ppuTick := by
  have hpic : s.apuTick.ppuTick.pic = s.ppuTick.pic := State.ppuTick_pic_congr s.apuTick_pic s.apuTick_mem
  have hsnd : s.ppuTick.apuTick.snd = s.apuTick.snd :=
    State.apuTick_snd_congr s.ppuTick_snd s.ppuTick_mem s.ppuTick_samplePeriod s.ppuTick_cycles
  apply State.ext_parts <;> simp [hpic, hsnd, State.ppuTick_iflag]

end

/-- Settles O35: the frame of each tick, and the six pairs of ticks in either order. -/
theorem tickOrderUnobservable : Obligations.TickOrderUnobservable := by
  unfold Obligations.TickOrderUnobservable
  intro s
  exact ⟨fun n => ⟨rfl, s.advance_cycles n⟩, rfl, fun _ => rfl, s.timerTick_frame, s.serialTick_frame, s.ppuTick_frame,
    s.apuTick_frame, s.timerTick_serialTick, s.timerTick_ppuTick, s.timerTick_apuTick, s.serialTick_ppuTick,
    s.serialTick_apuTick, s.ppuTick_apuTick⟩

end Sys2Proof.Machine
end

section
/-! PROOFS. The small devices (60_exceptions.md R540-R575): the timer and its rate, the joypad and its edge check, the serial
transfer. -/

namespace Sys2Proof.Machine

/-! #### The timer unit -/

section
variable (s : State)

theorem State.timerTick_sys : s.timerTick.timer.sys = s.timer.sys + 1 := by
  by_cases h : s.timer.counts
  · rw [State.timerTick_of_counts s h]
    split <;> rfl
  · rw [State.timerTick_of_not_counts s h]

/-- TMA and TAC stay. -/
theorem State.timerTick_timer : s.timerTick.timer =
    { s.timer with sys := s.timerTick.timer.sys, tima := s.timerTick.timer.tima } := by
  by_cases h : s.timer.counts
  · rw [State.timerTick_of_counts s h]
    split <;> rfl
  · rw [State.timerTick_of_not_counts s h]

theorem State.timerTick_tac : s.timerTick.timer.tac = s.timer.tac := by rw [State.timerTick_timer]

theorem State.timerTick_sys_toNat : s.timerTick.timer.sys.toNat = (s.timer.sys.toNat + 1) % 16384 := by
  rw [State.timerTick_sys]
  exact BitVec.toNat_add s.timer.sys 1

/-- Without an overflow TIMA goes up by one where it counts. -/
theorem State.timerTick_tima_toNat (h : s.timer.counts → s.timer.tima ≠ 0xFF) :
    s.timerTick.timer.tima.toNat = s.timer.tima.toNat + if s.timer.counts then 1 else 0 := by
  by_cases hc : s.timer.counts
  · rw [State.timerTick_of_counts s hc, if_neg (h hc), if_pos hc]
    have hlt := s.timer.tima.isLt
    have hne : s.timer.tima.toNat ≠ 255 := fun h255 => h hc (BitVec.eq_of_toNat_eq h255)
    have hsucc : (s.timer.tima + 1).toNat = (s.timer.tima.toNat + 1) % 256 := BitVec.toNat_add s.timer.tima 1
    dsimp only
    omega
  · rw [State.timerTick_of_not_counts s hc, if_neg hc]
    rfl

end

/-- Settles O43: one M-cycle by whether TIMA counts and overflows (`State.timerTick_of_counts`); the writes of DIV and TAC and
STOP each change their own field. -/
theorem timerTick : Obligations.TimerTick := by
  unfold Obligations.TimerTick
  intro s v
  have htac : v.setWidth 3 = v.extractLsb' 0 3 := BitVec.setWidth_eq_extractLsb' (by omega)
  rw [show s.timer.tac.setWidth 2 = s.timer.tac.extractLsb' 0 2 from BitVec.setWidth_eq_extractLsb' (by omega), htac]
  intro period counts t
  have hcounts : counts ↔ s.timer.counts := Iff.rfl
  refine ⟨?frame, s.timerTick_sys_toNat, fun hc hov => ?overflow, fun hc hne => ?up, fun hc => ?still, ?div,
    s.busWrite_reg .div v (k := 0x04) rfl, s.busWrite_reg .tac v (k := 0x07) rfl, s.stop, rfl, rfl, rfl⟩
  case frame =>
    have htimer := s.timerTick_timer
    apply State.ext_parts <;> simp [t, ← htimer]
  case overflow =>
    have ht : t = _ := (s.timerTick_of_counts (hcounts.1 hc)).trans (if_pos hov)
    rw [ht]
    exact ⟨rfl, rfl⟩
  case up =>
    have ht : t = _ := (s.timerTick_of_counts (hcounts.1 hc)).trans (if_neg hne)
    have htima := s.timerTick_tima_toNat fun _ => hne
    rw [if_pos (hcounts.1 hc)] at htima
    exact ⟨htima, by rw [ht]⟩
  case still =>
    have ht : t = { s with timer := { s.timer with sys := s.timer.sys + 1 } } := s.timerTick_of_not_counts (mt hcounts.2 hc)
    rw [ht]
    exact ⟨rfl, rfl⟩
  case div => exact (s.busRead_reg .div (k := 0x04) rfl).trans (BitVec.eq_of_toNat_eq rfl)

/-! #### The timer's rate -/

/-- The multiples of the period that `sys` passes in `n` M-cycles. -/
def Timer.passes (x : Timer) (n : Nat) : Nat :=
  (x.sys.toNat + n) / timerPeriod x.tac - x.sys.toNat / timerPeriod x.tac

/-- The first of `n + 1` M-cycles passes a multiple or none, and `sys` starts again at 0 on a multiple of every period. -/
theorem Timer.passes_succ {x y : Timer} (hon : x.tac.getLsbD 2 = true) (htac : y.tac = x.tac)
    (hsys : y.sys.toNat = (x.sys.toNat + 1) % 16384) (n : Nat) :
    x.passes (n + 1) = (if x.counts then 1 else 0) + y.passes n := by
  have hcounts : x.counts ↔ (x.sys.toNat + 1) % timerPeriod x.tac = 0 := and_iff_right hon
  unfold Timer.passes
  rw [htac, hsys, if_congr hcounts rfl rfl]
  obtain h | h | h | h := timerPeriod_cases x.tac <;> rw [h] <;> split <;> omega

theorem State.tick_timer (s : State) : s.tick.timer = s.timerTick.timer := by simp [State.tick]

/-- By induction on the M-cycles, the first one taken off: it counts TIMA or not (`Timer.passes_succ`). -/
theorem State.ticks_timer {n : Nat} {s : State} (hon : s.timer.tac.getLsbD 2 = true)
    (hfit : s.timer.tima.toNat + s.timer.passes n ≤ 255) :
    (State.ticks n s).timer.tima.toNat = s.timer.tima.toNat + s.timer.passes n
      ∧ (State.ticks n s).timer.sys.toNat = (s.timer.sys.toNat + n) % 16384 := by
  induction n generalizing s with
  | zero =>
    have hsys := s.timer.sys.isLt
    exact ⟨by simp [Timer.passes], (Nat.mod_eq_of_lt hsys).symm⟩
  | succ n ih =>
    have hsys : s.tick.timer.sys.toNat = (s.timer.sys.toNat + 1) % 16384 := by rw [State.tick_timer, State.timerTick_sys_toNat]
    have htac : s.tick.timer.tac = s.timer.tac := by rw [State.tick_timer, State.timerTick_tac]
    have hpasses := Timer.passes_succ hon htac hsys n
    have htima : s.tick.timer.tima.toNat = s.timer.tima.toNat + if s.timer.counts then 1 else 0 := by
      rw [State.tick_timer]
      refine s.timerTick_tima_toNat fun hc hov => ?_
      have h255 : s.timer.tima.toNat = 255 := congrArg BitVec.toNat hov
      rw [if_pos hc] at hpasses
      omega
    obtain ⟨htima', hsys'⟩ := ih (s := s.tick) (htac ▸ hon) (by omega)
    rw [State.ticks_succ]
    omega

/-- Settles O44: by induction on the M-cycles (`State.ticks_timer`). -/
theorem timerRate : Obligations.TimerRate := by
  unfold Obligations.TimerRate
  intro s n count hon hfit
  exact State.ticks_timer hon hfit

/-! #### The joypad (R570, R571) -/

/-- A bit of `P1_low` is 0 where a selected group has it 0. -/
theorem Joypad.low_getLsbD (j : Joypad) {i : Nat} (hi : i < 4) : j.low.getLsbD i =
    ((j.sel.getLsbD 1 || j.buttons.getLsbD i) && (j.sel.getLsbD 0 || j.dirs.getLsbD i)) := by
  have hones : (15#4).getLsbD i = true := by interval_cases i <;> rfl
  unfold Joypad.low
  rw [BitVec.getLsbD_and]
  cases j.sel.getLsbD 0 <;> cases j.sel.getLsbD 1 <;> simp [hones]

theorem Joypad.read_getLsbD (j : Joypad) : (∀ i, i < 4 → j.read.getLsbD i = j.low.getLsbD i)
    ∧ j.read.getLsbD 4 = j.sel.getLsbD 0 ∧ j.read.getLsbD 5 = j.sel.getLsbD 1
    ∧ j.read.getLsbD 6 = true ∧ j.read.getLsbD 7 = true := by
  unfold Joypad.read
  simp only [BitVec.getLsbD_append]
  refine ⟨fun i hi => ?_, rfl, rfl, rfl, rfl⟩
  rw [if_pos hi]

/-- No line falls: every bit that was 1 is 1 still. -/
theorem and_not_eq_zero_iff (last low : BitVec 4) :
    last &&& ~~~ low = 0 ↔ ∀ i, i < 4 → last.getLsbD i = true → low.getLsbD i = true := by
  rw [BitVec.eq_of_getLsbD_eq_iff]
  refine forall₂_congr fun i hi => ?_
  simp [hi]

/-- The edge check changes `p1_last` and IF bit 4 alone. -/
theorem State.joypadCheck_eq (s : State) : s.joypadCheck =
    { s with
      joy := { s.joy with last := s.joy.low }
      irq := { s.irq with iflag := if s.joy.last &&& ~~~ s.joy.low = 0 then s.irq.iflag else s.irq.iflag ||| 16 } } := by
  unfold State.joypadCheck
  dsimp only
  split <;> rfl

/-- Settles O45: a write to P1 and an update of the masks each change the unit and run the edge check (`State.joypadCheck_eq`). -/
theorem joypad : Obligations.Joypad := by
  unfold Obligations.Joypad
  intro s v buttons dirs low checked
  obtain ⟨hlow, hbit4, hbit5, hbit6, hbit7⟩ := s.joy.read_getLsbD
  have hread : s.busRead 0xFF00 = s.joy.read := s.busRead_reg .p1 (k := 0x00) rfl
  have hchecked (j : Machine.Joypad) (hj : j.last = s.joy.last) : checked (State.joypadCheck { s with joy := j }) j := by
    rw [State.joypadCheck_eq]
    refine ⟨rfl, rfl, fun i hi => j.low_getLsbD hi, fun ⟨i, hi, hlast, hfalls⟩ => if_neg fun hnone => ?_,
      fun hkeeps => if_pos ?_⟩
    · have hhigh : low j i = true := (j.low_getLsbD hi).symm.trans ((and_not_eq_zero_iff _ _).1 hnone i hi (hj ▸ hlast))
      rw [hfalls] at hhigh
      exact Bool.false_ne_true hhigh
    · exact (and_not_eq_zero_iff _ _).2 fun i hi hlast => (j.low_getLsbD hi).trans (hkeeps i hi (hj ▸ hlast))
  rw [hread]
  refine ⟨fun i hi => (hlow i hi).trans (s.joy.low_getLsbD hi), hbit4, hbit5, hbit6, hbit7, ?_, hchecked _ rfl⟩
  have hsel : v.extractLsb' 4 2 = (v >>> 4).setWidth 2 := BitVec.eq_of_toNat_eq rfl
  rw [← hsel, show s.busWrite 0xFF00 v = s.writeP1 v from s.busWrite_reg .p1 v (k := 0x00) rfl]
  exact hchecked _ rfl

/-! #### The serial unit (R575) -/

section
variable {s : State}

theorem State.serialTick_idle (h : s.ser.count = 0) : s.serialTick = s := if_pos h

theorem State.serialTick_running (h : 1 < s.ser.count) :
    s.serialTick = { s with ser := { s.ser with count := s.ser.count - 1 } } := by
  unfold State.serialTick
  rw [if_neg (by omega), if_neg (by omega)]

theorem State.serialTick_last (h : s.ser.count = 1) : s.serialTick =
    { s with ser := { s.ser with sb := Config.serialByte s.cycles, start := false, count := 0 }
             irq := { s.irq with iflag := s.irq.iflag ||| 8 } } := by
  unfold State.serialTick
  rw [if_neg (by omega), if_pos h]
  rfl

theorem State.tick_ser (s : State) : s.tick.ser = s.serialTick.ser := by
  simp [State.tick, State.serialTick_ser_congr s.timerTick_ser s.timerTick_cycles]

/-- Of the four ticks the serial unit's alone requests interrupt 3. -/
theorem State.tick_iflag_bit3 (s : State) :
    s.tick.irq.iflag.getLsbD 3 = (s.irq.iflag.getLsbD 3 || decide (s.ser.count = 1)) := by
  have hiflag : s.tick.irq.iflag = s.irq.iflag ||| s.timer.requests ||| s.ser.requests ||| s.pic.requests := by
    simp [State.tick, State.ppuTick_iflag, State.serialTick_iflag, State.timerTick_iflag]
  have htimer : s.timer.requests.getLsbD 3 = false := by
    unfold Timer.requests
    split <;> rfl
  have hser : s.ser.requests.getLsbD 3 = decide (s.ser.count = 1) := by
    unfold Serial.requests
    by_cases h : s.ser.count = 1 <;> simp [h]
  have hpic : s.pic.requests.getLsbD 3 = false := by
    unfold Picture.requests
    split
    · rw [BitVec.getLsbD_or]
      split <;> split <;> rfl
    · rfl
  rw [hiflag, BitVec.getLsbD_or, BitVec.getLsbD_or, BitVec.getLsbD_or, htimer, hser, hpic, Bool.or_false, Bool.or_false]

/-- An idle unit stays idle, whatever the other devices do. -/
theorem State.ticks_ser_idle (h : s.ser.count = 0) (n : Nat) :
    (State.ticks n s).ser = s.ser ∧ (State.ticks n s).irq.iflag.getLsbD 3 = s.irq.iflag.getLsbD 3 := by
  refine State.ticks_induct (P := fun t => t.ser = s.ser ∧ t.irq.iflag.getLsbD 3 = s.irq.iflag.getLsbD 3) ?_ n s ⟨rfl, rfl⟩
  rintro t ⟨hser, hbit⟩
  have hcount : t.ser.count = 0 := by rw [hser, h]
  rw [State.tick_ser, State.serialTick_idle hcount, State.tick_iflag_bit3, hcount, hser, hbit]
  exact ⟨rfl, Bool.or_false _⟩

/-- A running transfer counts down, by induction on the M-cycles before its last one. -/
theorem State.ticks_ser_running {n : Nat} (h : n < s.ser.count) :
    (State.ticks n s).ser = { s.ser with count := s.ser.count - n }
      ∧ (State.ticks n s).irq.iflag.getLsbD 3 = s.irq.iflag.getLsbD 3 := by
  induction n generalizing s with
  | zero => exact ⟨rfl, rfl⟩
  | succ n ih =>
    have hser : s.tick.ser = { s.ser with count := s.ser.count - 1 } := by
      rw [State.tick_ser, State.serialTick_running (by omega)]
    have hbit : s.tick.irq.iflag.getLsbD 3 = s.irq.iflag.getLsbD 3 := by
      have hne : s.ser.count ≠ 1 := by omega
      rw [State.tick_iflag_bit3, decide_eq_false hne, Bool.or_false]
    obtain ⟨hser', hbit'⟩ := ih (s := s.tick) (by rw [hser]; dsimp only; omega)
    rw [State.ticks_succ, hser', hbit', hser, hbit, Nat.sub_sub, Nat.add_comm 1 n]
    exact ⟨rfl, rfl⟩

/-- The last M-cycle of a transfer ends it and requests interrupt 3. -/
theorem State.ticks_ser_last (h : 0 < s.ser.count) :
    let t := State.ticks s.ser.count s
    t.ser = { s.ser with sb := t.ser.sb, start := false, count := 0 } ∧ t.irq.iflag.getLsbD 3 = true := by
  obtain ⟨n, hn⟩ := Nat.exists_eq_succ_of_ne_zero (Nat.ne_of_gt h)
  have hlast : State.ticks s.ser.count s = (State.ticks n s).tick := by rw [hn, State.ticks_add n 1]; rfl
  obtain ⟨hser, -⟩ := State.ticks_ser_running (s := s) (n := n) (by omega)
  have hone : (State.ticks n s).ser.count = 1 := by rw [hser, hn]; exact Nat.add_sub_cancel_left n 1
  intro t
  have ht : t = (State.ticks n s).tick := hlast
  rw [ht, State.tick_ser, State.serialTick_last hone, State.tick_iflag_bit3, hone, hser]
  exact ⟨rfl, Bool.or_true _⟩

end

/-- Settles O46: a write to SC by its two bits, one M-cycle by the count, and `n` M-cycles by the `State.ticks_ser` lemmas. -/
theorem serialTransfer : Obligations.SerialTransfer := by
  unfold Obligations.SerialTransfer
  intro s v
  refine ⟨?write, ⟨State.serialTick_idle, State.serialTick_running, fun h => ?last⟩, fun n hn => State.ticks_ser_running hn,
    State.ticks_ser_last, State.ticks_ser_idle⟩
  case write =>
    rw [show s.busWrite 0xFF02 v = s.writeSc v from s.busWrite_reg .sc v (k := 0x02) rfl]
    refine ⟨rfl, rfl, rfl, rfl, fun h7 h0 => ?_, fun h7 => ?_, fun h7 h0 => ?_⟩
    · simp only [State.writeSc, h7, h0, if_true]
    · simp only [State.writeSc, h7, Bool.false_eq_true, if_false]
    · simp only [State.writeSc, h7, h0, Bool.false_eq_true, if_true, if_false]
  case last => rw [State.serialTick_last h]

end Sys2Proof.Machine
end

section
/-! PROOFS. The PictureTimer (60_exceptions.md R600-R640): its position in the frame, its interrupts, the display switch, and
the line records. -/

namespace Sys2Proof.Machine

/-! #### The picture registers after one M-cycle, by the position -/

section
variable {s : State} (hon : s.pic.lcdc.getLsbD 7 = true)
include hon

theorem State.ppuTick_pic_lineStart (hu : s.pic.u = 113) : s.ppuTick.pic =
    { s.pic with
      u := 0
      ly := (s.pic.ly + 1) % 154
      winLine := if (s.pic.ly + 1) % 154 = 0 then 0 else s.pic.winLine
      coinc := (s.pic.ly + 1) % 154 == s.pic.lyc.toNat
      mode := if (s.pic.ly + 1) % 154 < 144 then .oamSearch else if (s.pic.ly + 1) % 154 = 144 then .vblank else s.pic.mode
      lineSprites := if (s.pic.ly + 1) % 154 < 144 then selectSprites s.mem.oam s.pic.lcdc ((s.pic.ly + 1) % 154)
        else if (s.pic.ly + 1) % 154 = 144 then [] else s.pic.lineSprites
      frameDone := if (s.pic.ly + 1) % 154 = 144 then true else s.pic.frameDone } := by
  rw [State.ppuTick_lineStart hon hu, State.lineStart_pic]

theorem State.ppuTick_pic_transfer (hly : s.pic.ly < 144) (hu : s.pic.u = 19) : s.ppuTick.pic =
    { s.pic with
      u := 20
      mode := .transfer
      winLine := if s.windowOn then s.pic.winLine + 1 else s.pic.winLine
      lines := s.lineRecord :: s.pic.lines } := by
  rw [State.ppuTick_transfer hon hly hu, State.windowCount_pic]
  rfl

theorem State.ppuTick_pic_hblank (hly : s.pic.ly < 144) (hu : s.pic.u = 62) :
    s.ppuTick.pic = { s.pic with u := 63, mode := .hblank } := by
  rw [State.ppuTick_hblank hon hly hu, State.statRequest_pic]

theorem State.ppuTick_pic_within (h113 : s.pic.u ≠ 113) (h19 : ¬ (s.pic.ly < 144 ∧ s.pic.u = 19))
    (h62 : ¬ (s.pic.ly < 144 ∧ s.pic.u = 62)) : s.ppuTick.pic = { s.pic with u := s.pic.u + 1 } := by
  rw [State.ppuTick_within hon h113 h19 h62]

/-- The picture registers outside the end of a line: the compare latch, the sprites and the frame flag stay. -/
theorem State.ppuTick_pic_of_not_lineStart (hu : s.pic.u ≠ 113) :
    s.ppuTick.pic.u = s.pic.u + 1 ∧ s.ppuTick.pic.ly = s.pic.ly ∧ s.ppuTick.pic.coinc = s.pic.coinc
      ∧ s.ppuTick.pic.frameDone = s.pic.frameDone := by
  obtain hu' | ⟨hly, hu'⟩ | ⟨hly, hu'⟩ | ⟨-, h19, h62⟩ := s.pic.position_cases
  · exact absurd hu' hu
  · rw [State.ppuTick_pic_transfer hon hly hu', hu']
    exact ⟨rfl, rfl, rfl, rfl⟩
  · rw [State.ppuTick_pic_hblank hon hly hu', hu']
    exact ⟨rfl, rfl, rfl, rfl⟩
  · rw [State.ppuTick_pic_within hon hu h19 h62]
    exact ⟨rfl, rfl, rfl, rfl⟩

end

/-! #### The position in the frame (R600, R601) -/

/-- M-cycles since the start of line 0. -/
def Picture.position (p : Picture) : Nat := p.ly * 114 + p.u

section
variable {s : State}

theorem State.ppuTick_lcdc (s : State) : s.ppuTick.pic.lcdc = s.pic.lcdc := by
  cases hon : s.pic.lcdc.getLsbD 7 with
  | false =>
    rw [State.ppuTick_off hon, State.offTick]
    split <;> rfl
  | true =>
    obtain hu | ⟨hly, hu⟩ | ⟨hly, hu⟩ | ⟨h113, h19, h62⟩ := s.pic.position_cases
    · rw [State.ppuTick_pic_lineStart hon hu]
    · rw [State.ppuTick_pic_transfer hon hly hu]
    · rw [State.ppuTick_pic_hblank hon hly hu]
    · rw [State.ppuTick_pic_within hon h113 h19 h62]

theorem State.ppuTick_position (hon : s.pic.lcdc.getLsbD 7 = true) (hly : s.pic.ly < 154) (hu : s.pic.u < 114) :
    s.ppuTick.pic.position = (s.pic.position + 1) % 17556 := by
  unfold Picture.position
  by_cases h113 : s.pic.u = 113
  · rw [State.ppuTick_pic_lineStart hon h113, h113]
    dsimp only
    omega
  · obtain ⟨hu', hly', -, -⟩ := State.ppuTick_pic_of_not_lineStart hon h113
    rw [hu', hly']
    omega

theorem State.tick_pic (s : State) : s.tick.pic = s.ppuTick.pic := by
  have hpic : s.timerTick.serialTick.pic = s.pic := by simp
  have hmem : s.timerTick.serialTick.mem = s.mem := by simp
  rw [State.tick, State.apuTick_pic, State.ppuTick_pic_congr hpic hmem]

theorem State.PicOk.tick (h : s.PicOk) : s.tick.PicOk := h.ppuTick.of_pic s.tick_pic

theorem State.PicOk.ticks (h : s.PicOk) (n : Nat) : (State.ticks n s).PicOk :=
  State.ticks_induct (P := State.PicOk) (fun _ ht => ht.tick) n s h

theorem State.ticks_lcdc (n : Nat) (s : State) : (State.ticks n s).pic.lcdc = s.pic.lcdc :=
  State.ticks_keep (f := fun t => t.pic.lcdc) (fun t => by rw [State.tick_pic, State.ppuTick_lcdc]) n s

/-- By induction on the M-cycles, the first one taken off. -/
theorem State.ticks_position (n : Nat) (h : s.PicOk) (hon : s.pic.lcdc.getLsbD 7 = true) :
    (State.ticks n s).pic.position = (s.pic.position + n) % 17556 := by
  have hrange {t : State} (ht : t.PicOk) (hont : t.pic.lcdc.getLsbD 7 = true) : t.pic.ly < 154 ∧ t.pic.u < 114 := by
    obtain ⟨-, -, -, hsched, -⟩ := ht
    obtain ⟨hly, hu, -, -⟩ := hsched hont
    exact ⟨hly, hu⟩
  induction n generalizing s with
  | zero =>
    obtain ⟨hly, hu⟩ := hrange h hon
    unfold Picture.position
    rw [State.ticks_zero]
    omega
  | succ n ih =>
    obtain ⟨hly, hu⟩ := hrange h hon
    have hlcdc : s.tick.pic.lcdc = s.pic.lcdc := by rw [State.tick_pic, State.ppuTick_lcdc]
    rw [State.ticks_succ, ih h.tick (hlcdc ▸ hon), State.tick_pic, State.ppuTick_position hon hly hu]
    omega

end

/-- The mode by the line and the unit, in the bounds of R601. -/
theorem scheduledMode_eq (ly u : Nat) : scheduledMode ly u = if ly ≤ 143 then
    (if u ≤ 19 then .oamSearch else if u ≤ 62 then .transfer else .hblank) else .vblank := by
  unfold scheduledMode
  by_cases h : ly ≤ 143
  · rw [if_neg (by omega), if_pos h]
    exact if_congr Nat.lt_succ_iff rfl (if_congr Nat.lt_succ_iff rfl rfl)
  · rw [if_pos (by omega), if_neg h]

/-- Settles O47: the invariant `PicOk` along the M-cycles gives the ranges and the mode, `State.ticks_position` the position. -/
theorem framePosition : Obligations.FramePosition := by
  unfold Obligations.FramePosition
  intro s n hok hon t
  have hont : t.displayOn = true := (congrArg (BitVec.getLsbD · 7) (State.ticks_lcdc n s)).trans hon
  obtain ⟨-, -, -, hsched, -⟩ := hok.ticks n
  obtain ⟨hly, hu, hmode, -⟩ := hsched hont
  refine ⟨hly, hu, State.ticks_position n hok hon, hmode.trans (scheduledMode_eq _ _)⟩

/-! #### The interrupt requests (R612, R613) -/

/-- The bits of a request for interrupt 0 on one condition and for interrupt 1 on another. -/
theorem getLsbD_two_requests (v e : Prop) [Decidable v] [Decidable e] :
    let r : BitVec 5 := (if v then 1 else 0) ||| (if e then 2 else 0)
    r.getLsbD 0 = decide v ∧ r.getLsbD 1 = decide e ∧ ∀ k, 2 ≤ k → r.getLsbD k = false := by
  intro r
  have hr : r.toNat < 2 ^ 2 := by by_cases hv : v <;> by_cases he : e <;> simp [r, hv, he]
  refine ⟨?_, ?_, fun k hk => Nat.testBit_lt_two_pow (hr.trans_le (Nat.pow_le_pow_right (by decide) hk))⟩
  · by_cases hv : v <;> by_cases he : e <;> simp [r, hv, he]
  · by_cases hv : v <;> by_cases he : e <;> simp [r, hv, he]

theorem Picture.requests_getLsbD {p : Picture} (hon : p.lcdc.getLsbD 7 = true) :
    p.requests.getLsbD 0 = decide p.entersVblank ∧ p.requests.getLsbD 1 = decide p.statEvent
      ∧ ∀ k, 2 ≤ k → p.requests.getLsbD k = false := by
  rw [Picture.requests, if_pos hon]
  exact getLsbD_two_requests _ _

/-- The frame flag is set on entering line 144 and nowhere else (R612). -/
theorem State.ppuTick_frameDone {s : State} (hon : s.pic.lcdc.getLsbD 7 = true) :
    s.ppuTick.pic.frameDone = (s.pic.frameDone || decide s.pic.entersVblank) := by
  by_cases hu : s.pic.u = 113
  · rw [State.ppuTick_pic_lineStart hon hu]
    by_cases h144 : (s.pic.ly + 1) % 154 = 144 <;> simp [Picture.entersVblank, hu, h144]
  · obtain ⟨-, -, -, hframe⟩ := State.ppuTick_pic_of_not_lineStart hon hu
    simp [Picture.entersVblank, hframe, hu]

/-- Settles O48: the IF bits are the old ones and `Picture.requests`; the latch and the frame flag change at the end of a line
alone. -/
theorem pictureInterrupts : Obligations.PictureInterrupts := by
  unfold Obligations.PictureInterrupts
  intro s hon _ _ t next starts vblank event
  obtain ⟨hbit0, hbit1, hbits⟩ := Picture.requests_getLsbD hon
  have hiflag (k : Nat) : t.irq.iflag.getLsbD k = (s.irq.iflag.getLsbD k || s.pic.requests.getLsbD k) := by
    rw [State.ppuTick_iflag, BitVec.getLsbD_or]
  refine ⟨?vblank, ?stat, fun k hk => ?others, s.ppuTick_ie, fun hu => ?latch, fun hu => ?keeps, ?frame, fun v => ?write⟩
  case vblank => rw [hiflag, hbit0, Bool.or_eq_true, decide_eq_true_iff]
  case stat => rw [hiflag, hbit1, Bool.or_eq_true, decide_eq_true_iff]
  case others => rw [hiflag, hbits k hk, Bool.or_false]
  case latch =>
    rw [State.ppuTick_pic_lineStart hon hu]
    rfl
  case keeps =>
    obtain ⟨-, -, hcoinc, -⟩ := State.ppuTick_pic_of_not_lineStart hon hu
    exact hcoinc
  case frame => rw [State.ppuTick_frameDone hon, Bool.or_eq_true, decide_eq_true_iff]
  case write => rw [show s.busWrite 0xFF41 v = _ from s.busWrite_reg .stat v (k := 0x41) rfl]; rfl

/-! #### The display switch (R630, R631) -/

section
variable (s : State) (v : Byte)

theorem State.writeLcdc_keep (h : v.getLsbD 7 = s.pic.lcdc.getLsbD 7) :
    s.writeLcdc v = { s with pic := { s.pic with lcdc := v } } := by
  unfold State.writeLcdc State.displayOn
  rw [h]
  cases s.pic.lcdc.getLsbD 7 <;> rfl

theorem State.writeLcdc_off (hon : s.pic.lcdc.getLsbD 7 = true) (hv : v.getLsbD 7 = false) :
    s.writeLcdc v = State.displayOff { s with pic := { s.pic with lcdc := v } } := by
  unfold State.writeLcdc State.displayOn
  rw [hon, hv]

theorem State.writeLcdc_start (hoff : s.pic.lcdc.getLsbD 7 = false) (hv : v.getLsbD 7 = true) :
    s.writeLcdc v = State.displayStart { s with pic := { s.pic with lcdc := v } } := by
  unfold State.writeLcdc State.displayOn
  rw [hoff, hv]

theorem State.writeLcdc_lcdc : (s.writeLcdc v).pic.lcdc = v := by
  unfold State.writeLcdc
  dsimp only
  split <;> rfl

end

/-- Settles O49: a write to LCDC by the old and the new bit 7, and the M-cycle of the display that is off. -/
theorem displaySwitch : Obligations.DisplaySwitch := by
  unfold Obligations.DisplaySwitch
  intro s v
  rw [show s.busWrite 0xFF40 v = s.writeLcdc v from s.busWrite_reg .lcdc v (k := 0x40) rfl]
  refine ⟨s.writeLcdc_keep v, s.writeLcdc_off v, s.writeLcdc_start v, fun hv => ?ly, fun hoff => ?time⟩
  case ly =>
    have hoff : ¬ (s.writeLcdc v).displayOn = true := by
      rw [State.displayOn, State.writeLcdc_lcdc, hv]
      exact Bool.false_ne_true
    exact (State.busRead_reg _ .ly (k := 0x44) rfl).trans (if_neg hoff)
  case time =>
    rw [State.ppuTick_off hoff, State.offTick]
    exact ⟨fun h => if_pos (by omega), fun h => if_neg (by omega)⟩

/-! #### The sprites of a line (R610) -/

section
variable (oam : Store)

/-- The order of the selected sprites, as a proposition. -/
def SpriteLt (i j : Nat) : Prop :=
  (oam.read (4 * i + 1)).toNat < (oam.read (4 * j + 1)).toNat
    ∨ ((oam.read (4 * i + 1)).toNat = (oam.read (4 * j + 1)).toNat ∧ i < j)

variable {oam}

theorem spriteBefore_iff {i j : Nat} : spriteBefore oam i j = true ↔ SpriteLt oam i j := by
  simp [spriteBefore, SpriteLt]

theorem SpriteLt.trans {i j k : Nat} (h1 : SpriteLt oam i j) (h2 : SpriteLt oam j k) : SpriteLt oam i k := by
  unfold SpriteLt at *
  omega

/-- Two sprites of different index are in one order or the other. -/
theorem spriteLt_of_not {i j : Nat} (hne : i ≠ j) (h : ¬ SpriteLt oam i j) : SpriteLt oam j i := by
  unfold SpriteLt at *
  omega

/-- By induction on the ordered list: a new index goes before the first sprite that it precedes. -/
theorem pairwise_insertSprite {i : Nat} {l : List Nat} (hl : l.Pairwise (SpriteLt oam)) (hi : i ∉ l) :
    (insertSprite oam i l).Pairwise (SpriteLt oam) := by
  induction l with
  | nil => exact List.pairwise_singleton _ i
  | cons j rest ih =>
    obtain ⟨hj, hrest⟩ := List.pairwise_cons.1 hl
    rw [List.mem_cons, not_or] at hi
    obtain ⟨hne, hi'⟩ := hi
    unfold insertSprite
    split
    next hbefore =>
      have hij : SpriteLt oam i j := spriteBefore_iff.1 hbefore
      refine List.pairwise_cons.2 ⟨fun k hk => ?_, hl⟩
      obtain rfl | hk := List.mem_cons.1 hk
      · exact hij
      · exact hij.trans (hj k hk)
    next hbefore =>
      have hji : SpriteLt oam j i := spriteLt_of_not hne (mt spriteBefore_iff.2 hbefore)
      refine List.pairwise_cons.2 ⟨fun k hk => ?_, ih hrest hi'⟩
      obtain rfl | hk := List.mem_cons.1 ((insertSprite_perm oam i rest).mem_iff.1 hk)
      · exact hji
      · exact hj k hk

theorem pairwise_sortSprites {l : List Nat} (hl : l.Nodup) : (sortSprites oam l).Pairwise (SpriteLt oam) := by
  induction l with
  | nil => exact List.Pairwise.nil
  | cons i rest ih =>
    obtain ⟨hi, hrest⟩ := List.nodup_cons.1 hl
    exact pairwise_insertSprite (ih hrest) (mt (sortSprites_perm oam rest).mem_iff.1 hi)

theorem nodup_chooseSprites (lcdc : Byte) (line : Nat) : (chooseSprites oam lcdc line).Nodup :=
  List.nodup_range.sublist ((List.take_sublist _ _).trans List.filter_sublist)

end

/-! #### The line records (R625, R640) -/

/-- The records and the window line stay but where mode 3 begins, and the counter starts again on line 0. -/
theorem State.ppuTick_lines_of_not_transfer {s : State} (hon : s.pic.lcdc.getLsbD 7 = true) (hly : s.pic.ly < 154)
    (h19 : ¬ (s.pic.u = 19 ∧ s.pic.ly < 144)) : s.ppuTick.pic.lines = s.pic.lines
      ∧ s.ppuTick.pic.winLine = if s.pic.u = 113 ∧ s.pic.ly = 153 then 0 else s.pic.winLine := by
  obtain hu | ⟨hly', hu⟩ | ⟨hly', hu⟩ | ⟨h113, h19', h62⟩ := s.pic.position_cases
  · have hzero : (s.pic.ly + 1) % 154 = 0 ↔ s.pic.u = 113 ∧ s.pic.ly = 153 := by omega
    rw [State.ppuTick_pic_lineStart hon hu]
    exact ⟨rfl, if_congr hzero rfl rfl⟩
  · exact absurd ⟨hu, hly'⟩ h19
  · rw [State.ppuTick_pic_hblank hon hly' hu, if_neg (by omega)]
    exact ⟨rfl, rfl⟩
  · rw [State.ppuTick_pic_within hon h113 h19' h62, if_neg (by omega)]
    exact ⟨rfl, rfl⟩

/-- Settles O50: the selection is `sortSprites` of ten distinct indexes; the sprites, the record and the window counter are those
of the two ends of mode 2. -/
theorem lineDescriptors : Obligations.LineDescriptors := by
  unfold Obligations.LineDescriptors
  refine ⟨fun oam lcdc line => ⟨selectSprites_perm oam lcdc line, pairwise_sortSprites (nodup_chooseSprites lcdc line)⟩,
    fun s hon hu => ?start, fun s hon hly _ => ⟨fun hu hvisible => ?transfer, State.ppuTick_lines_of_not_transfer hon hly⟩⟩
  case start =>
    rw [State.ppuTick_pic_lineStart hon hu]
    exact ⟨fun h => if_pos h, fun h => (if_neg (by omega)).trans (if_pos h)⟩
  case transfer =>
    rw [State.ppuTick_pic_transfer hon hvisible hu]
    exact ⟨rfl, rfl⟩

end Sys2Proof.Machine
end

section
/-! PROOFS. The SoundTimer (60_exceptions.md R660-R690): the fields of its registers as numbers, the envelope and the sweep,
register writes and sound power, the frame sequencer, and the sample records. -/

namespace Sys2Proof.Machine

/-! #### The fields of the sound registers as numbers -/

section
variable (b lo hi : Byte)

/-- Bits `k` to `k + w - 1` of a byte. -/
theorem toNat_field (k w : Nat) : (b.extractLsb' k w).toNat = b.toNat / 2 ^ k % 2 ^ w := by
  rw [BitVec.extractLsb'_toNat, Nat.shiftRight_eq_div_pow]

theorem toNat_low_field (w : Nat) : (b.extractLsb' 0 w).toNat = b.toNat % 2 ^ w := by
  rw [toNat_field, Nat.pow_zero, Nat.div_one]

theorem sweepPeriod_eq : sweepPeriod b = b.toNat / 16 % 8 := toNat_field b 4 3

theorem sweepShift_eq : sweepShift b = b.toNat % 8 := toNat_low_field b 3

/-- `NRx4[2:0] : NRx3` (10_state.md R70-R72). -/
theorem freq11_toNat : (freq11 lo hi).toNat = hi.toNat % 8 * 256 + lo.toNat := by
  rw [freq11, BitVec.toNat_append, ← Nat.shiftLeft_add_eq_or_of_lt lo.isLt, Nat.shiftLeft_eq, toNat_low_field]
  rfl

/-- The DAC is on by bits 7-3 (R666). -/
theorem envDacOn_eq : envDacOn b = decide (8 ≤ b.toNat) := by
  have hlt := b.isLt
  have hfield : (b.extractLsb' 3 5).toNat = b.toNat / 8 % 32 := toNat_field b 3 5
  have hzero : b.extractLsb' 3 5 ≠ 0 ↔ 8 ≤ b.toNat := by
    rw [ne_eq, ← BitVec.toNat_inj, hfield]
    change ¬ _ = 0 ↔ _
    omega
  rw [envDacOn, Bool.eq_iff_iff, bne_iff_ne, hzero, decide_eq_true_iff]

/-- R665. -/
theorem triggerEnvelope_eq : triggerEnvelope b = { vol := (b >>> 4).setWidth 4, timer := b.toNat % 8 } := by
  rw [triggerEnvelope, toNat_low_field]
  rfl

theorem sweepReload_eq : sweepReload b = if b.toNat / 16 % 8 ≠ 0 then b.toNat / 16 % 8 else 8 := by
  rw [sweepReload, sweepPeriod_eq]

theorem sweepCalc_eq (f : BitVec 11) : sweepCalc b f =
    if b.getLsbD 3 then f.toNat - f.toNat / 2 ^ (b.toNat % 8) else f.toNat + f.toNat / 2 ^ (b.toNat % 8) := by
  rw [sweepCalc, sweepShift_eq]

/-- Only a sweep upwards passes 2047 (R664). -/
theorem sweepCalc_overflow_iff (f : BitVec 11) :
    2047 < sweepCalc b f ↔ b.getLsbD 3 = false ∧ 2047 < f.toNat + f.toNat / 2 ^ (b.toNat % 8) := by
  have hlt := f.isLt
  have hsub : f.toNat - f.toNat / 2 ^ (b.toNat % 8) ≤ f.toNat := Nat.sub_le _ _
  rw [sweepCalc_eq]
  cases b.getLsbD 3 with
  | false => simp
  | true =>
    simp
    omega

end

/-! #### The envelope and the sweep (R663, R664) -/

/-- The volume steps towards 15 or 0 and never past it. -/
theorem volStep_toNat (b : Byte) (vol : BitVec 4) :
    (volStep b vol).toNat = if b.getLsbD 3 then min 15 (vol.toNat + 1) else vol.toNat - 1 := by
  have hlt := vol.isLt
  have hup : (vol + 1).toNat = (vol.toNat + 1) % 16 := BitVec.toNat_add vol 1
  have hdown : (vol - 1).toNat = (15 + vol.toNat) % 16 := BitVec.toNat_sub vol 1
  unfold volStep
  cases b.getLsbD 3 with
  | true =>
    simp only [if_true]
    split <;> omega
  | false =>
    simp only [Bool.false_eq_true, if_false]
    split <;> omega

theorem Envelope.clock_idle (e : Envelope) {b : Byte} {active : Bool} (below : Nat) (h : active = false ∨ b.toNat % 8 = 0) :
    e.clock b active below = e := by
  unfold Envelope.clock
  rw [toNat_low_field]
  obtain h | h := h <;> simp [h]

/-- A clock of a running envelope whose timer is not 0. -/
theorem Envelope.clock_running (e : Envelope) {b : Byte} (below : Nat) (hp : b.toNat % 8 ≠ 0) (ht : e.timer ≠ 0) :
    e.clock b true below =
      if e.timer = 1 then { vol := volStep b e.vol, timer := b.toNat % 8 } else { e with timer := e.timer - 1 } := by
  have hone : e.timer - 1 = 0 ↔ e.timer = 1 := by omega
  unfold Envelope.clock
  rw [toNat_low_field]
  simp [hp, ht, hone]

section
variable {n : Sound}

theorem Sound.sweepClock_stopped (h : n.sweep.timer = 0) : n.sweepClock = n := if_pos h

theorem Sound.sweepClock_counting (h : 1 < n.sweep.timer) :
    n.sweepClock = { n with sweep := { n.sweep with timer := n.sweep.timer - 1 } } := by
  unfold Sound.sweepClock
  rw [if_neg (by omega), if_neg (by omega)]

/-- The sweep timer loaded again (R664). -/
def Sound.reloadSweep (n : Sound) : Sound := { n with sweep := { n.sweep with timer := sweepReload n.nr10 } }

/-- The sweep timer runs out: it is loaded again, and the sweep steps if it is enabled and has a period. -/
theorem Sound.sweepClock_expired (h : n.sweep.timer = 1) : n.sweepClock =
    if n.sweep.en = true ∧ n.nr10.toNat / 16 % 8 ≠ 0 then n.reloadSweep.sweepStep else n.reloadSweep := by
  have hcond : (n.sweep.en && sweepPeriod n.nr10 != 0) = true ↔ n.sweep.en = true ∧ n.nr10.toNat / 16 % 8 ≠ 0 := by
    rw [sweepPeriod_eq]
    simp
  unfold Sound.sweepClock
  rw [if_neg (by omega), if_pos h]
  exact if_congr hcond rfl rfl

theorem Sound.sweepStep_overflow (h : 2047 < sweepCalc n.nr10 n.sweep.shadow) :
    n.sweepStep = { n with ch1 := { n.ch1 with active := false } } := if_pos h

theorem Sound.sweepStep_noShift (h : sweepCalc n.nr10 n.sweep.shadow ≤ 2047) (hs : sweepShift n.nr10 = 0) :
    n.sweepStep = n := by
  rw [Sound.sweepStep, if_neg (by omega), if_neg (not_not.2 hs)]

theorem Sound.sweepStep_shift (h : sweepCalc n.nr10 n.sweep.shadow ≤ 2047) (hs : sweepShift n.nr10 ≠ 0) {f : BitVec 11}
    (hf : f.toNat = sweepCalc n.nr10 n.sweep.shadow) : n.sweepStep =
      { n with
        sweep := { n.sweep with shadow := f }
        nr13 := f.extractLsb' 0 8
        nr14 := n.nr14.extractLsb' 3 5 ++ f.extractLsb' 8 3
        ch1 := { n.ch1 with active := n.ch1.active && decide (sweepCalc n.nr10 f ≤ 2047) } } := by
  have hf11 : BitVec.ofNat 11 (sweepCalc n.nr10 n.sweep.shadow) = f := by
    rw [← hf, BitVec.ofNat_toNat, BitVec.setWidth_eq]
  have hagain : (!decide (sweepCalc n.nr10 f > 2047)) = decide (sweepCalc n.nr10 f ≤ 2047) := by
    rw [← decide_not, decide_eq_decide, not_lt]
  rw [Sound.sweepStep, if_neg (by omega), if_pos hs]
  simp only [hf11, hagain]

end

/-- The new shadow frequency in NR13 and NR14, whose bits 7-3 stay (R664). -/
theorem sweep_registers (nr14 : Byte) (f : BitVec 11) :
    (nr14.extractLsb' 3 5 ++ f.extractLsb' 8 3 : Byte).toNat % 8 * 256 + (f.extractLsb' 0 8).toNat = f.toNat
      ∧ (nr14.extractLsb' 3 5 ++ f.extractLsb' 8 3 : Byte).toNat / 8 = nr14.toNat / 8 := by
  have hnr14 := nr14.isLt
  have hf := f.isLt
  have happend : (nr14.extractLsb' 3 5 ++ f.extractLsb' 8 3 : Byte).toNat = nr14.toNat / 8 * 8 + f.toNat / 256 := by
    rw [BitVec.toNat_append, ← Nat.shiftLeft_add_eq_or_of_lt (BitVec.isLt _), Nat.shiftLeft_eq]
    simp only [BitVec.extractLsb'_toNat, Nat.shiftRight_eq_div_pow]
    omega
  have hlow : (f.extractLsb' 0 8).toNat = f.toNat % 256 := by simp
  omega

/-- Settles O54: an envelope clock by its timer (`Envelope.clock_running`), a sweep clock by its timer, and the sweep's step by the
result of `Calc()`. -/
theorem envelopeAndSweep : Obligations.EnvelopeAndSweep := by
  unfold Obligations.EnvelopeAndSweep
  refine ⟨fun e b active below => ⟨e.clock_idle below, ?_, ?_⟩, fun n => ?_⟩
  · rintro rfl hp ht
    rw [e.clock_running below hp (by omega), if_neg (by omega)]
  · rintro rfl hp ht
    rw [e.clock_running below hp (by omega), if_pos ht]
    exact ⟨rfl, volStep_toNat b e.vol⟩
  intro p sh reload freq f m
  have hfreq (x : BitVec 11) : sweepCalc n.nr10 x = freq x.toNat := sweepCalc_eq n.nr10 x
  have hreload : n.reloadSweep = { n with sweep := { n.sweep with timer := reload } } := by
    rw [Sound.reloadSweep, sweepReload_eq]
  have hsteps (ht : n.sweep.timer = 1) (hen : n.sweep.en = true) (hp : p ≠ 0) : m = n.reloadSweep.sweepStep :=
    (Sound.sweepClock_expired ht).trans (if_pos ⟨hen, hp⟩)
  have hfrom : sweepCalc n.reloadSweep.nr10 n.reloadSweep.sweep.shadow = f := hfreq _
  have hshift : sweepShift n.reloadSweep.nr10 = sh := sweepShift_eq n.nr10
  refine ⟨Sound.sweepClock_stopped, Sound.sweepClock_counting, fun ht hoff => ?off, fun ht hen hp hf => ?overflow,
    fun ht hen hp hf hsh => ?noShift, fun ht hen hp hf hsh => ?shift⟩
  case off =>
    have hnone : ¬ (n.sweep.en = true ∧ p ≠ 0) := by
      rintro ⟨hen, hp⟩
      exact hoff.elim (fun h => Bool.false_ne_true (h.symm.trans hen)) hp
    exact (Sound.sweepClock_expired ht).trans ((if_neg hnone).trans hreload)
  case overflow => rw [hsteps ht hen hp, Sound.sweepStep_overflow (hfrom.symm ▸ hf), hreload]
  case noShift => rw [hsteps ht hen hp, Sound.sweepStep_noShift (hfrom.symm ▸ hf) (hshift.trans hsh), hreload]
  case shift =>
    have hf11 : (BitVec.ofNat 11 f).toNat = f := by
      rw [BitVec.toNat_ofNat]
      exact Nat.mod_eq_of_lt (Nat.lt_succ_of_le hf)
    obtain ⟨hregs, hhigh⟩ := sweep_registers n.nr14 (BitVec.ofNat 11 f)
    rw [hsteps ht hen hp, Sound.sweepStep_shift (hfrom.symm ▸ hf) (hshift.trans_ne hsh) (hf11.trans hfrom.symm), hreload]
    refine ⟨rfl, hf11, rfl, rfl, hregs.trans hf11, hhigh, ?_⟩
    rw [hfreq, hf11]

/-! #### Register writes and sound power (R662, R665-R668) -/

section
variable (s : State) (v : Byte)

/-- With power on, the byte is stored and then the register's own effect follows (R668). -/
theorem State.busWrite_sound (hp : s.snd.power = true) (r : SoundReg) {k : Nat} (hr : ioRegAt k = some (.sound r)) :
    s.busWrite (BitVec.ofNat 16 (0xFF00 + k)) v = { s with snd := (s.snd.store r v).afterWrite r v } := by
  rw [s.busWrite_reg (.sound r) v hr, State.writeReg, Sound.write, if_pos hp]

/-- `Trigger(1)` with power on: only an upward sweep overflows (R665). -/
theorem Sound.trigger1_eq (n : Sound) : n.trigger1 =
    { n with
      ch1 := n.ch1.trigger (envDacOn n.nr12 && !decide (sweepShift n.nr10 ≠ 0 ∧ 2047 < sweepCalc n.nr10 (freq11 n.nr13 n.nr14))) 64
      env1 := triggerEnvelope n.nr12
      sweep := { shadow := freq11 n.nr13 n.nr14, timer := sweepReload n.nr10
                 en := decide (sweepPeriod n.nr10 ≠ 0 ∨ sweepShift n.nr10 ≠ 0) } } := by
  have hover : (sweepShift n.nr10 != 0 && decide (sweepCalc n.nr10 (freq11 n.nr13 n.nr14) > 2047))
      = decide (sweepShift n.nr10 ≠ 0 ∧ 2047 < sweepCalc n.nr10 (freq11 n.nr13 n.nr14)) := by
    rw [Bool.eq_iff_iff]
    simp
  have hen : (sweepPeriod n.nr10 != 0 || sweepShift n.nr10 != 0)
      = decide (sweepPeriod n.nr10 ≠ 0 ∨ sweepShift n.nr10 ≠ 0) := by
    rw [Bool.eq_iff_iff]
    simp
  rw [← hover, ← hen]
  rfl

end

/-- Settles O52: the byte is stored and then the register's own effect follows (`State.busWrite_sound`), read in numbers. -/
theorem soundWrites : Obligations.SoundWrites := by
  unfold Obligations.SoundWrites
  intro s v hp n len6 dac restart loads
  have hdac (b : Byte) : envDacOn b = dac b := envDacOn_eq b
  have hloads (b : Byte) : triggerEnvelope b = loads b := triggerEnvelope_eq b
  have hlen : 64 - (v.extractLsb' 0 6).toNat = len6 := congrArg (64 - ·) (toNat_low_field v 6)
  have hwrite (r : SoundReg) {k : Nat} (hr : ioRegAt k = some (.sound r)) := s.busWrite_sound v hp r hr
  refine ⟨hwrite .nr10 (k := 0x10) rfl, hwrite .nr13 (k := 0x13) rfl, hwrite .nr23 (k := 0x18) rfl,
    hwrite .nr32 (k := 0x1C) rfl, hwrite .nr33 (k := 0x1D) rfl, hwrite .nr43 (k := 0x22) rfl, hwrite .nr50 (k := 0x24) rfl,
    hwrite .nr51 (k := 0x25) rfl, ?nr11, ?nr21, hwrite .nr31 (k := 0x1B) rfl, ?nr41, ?nr12, ?nr22,
    hwrite .nr30 (k := 0x1A) rfl, ?nr42, ?nr24, ?nr34, ?nr44, fun hv => ?plain14, fun hv => ?trigger14⟩
  case nr11 => rw [← hlen]; exact hwrite .nr11 (k := 0x11) rfl
  case nr21 => rw [← hlen]; exact hwrite .nr21 (k := 0x16) rfl
  case nr41 => rw [← hlen]; exact hwrite .nr41 (k := 0x20) rfl
  case nr12 => rw [← hdac]; exact hwrite .nr12 (k := 0x12) rfl
  case nr22 => rw [← hdac]; exact hwrite .nr22 (k := 0x17) rfl
  case nr42 => rw [← hdac]; exact hwrite .nr42 (k := 0x21) rfl
  case nr24 =>
    rw [← hdac, ← hloads]
    exact (hwrite .nr24 (k := 0x19) rfl).trans (apply_ite (fun x : Sound => { s with snd := x }) _ _ _)
  case nr34 => exact (hwrite .nr34 (k := 0x1E) rfl).trans (apply_ite (fun x : Sound => { s with snd := x }) _ _ _)
  case nr44 =>
    rw [← hdac, ← hloads]
    exact (hwrite .nr44 (k := 0x23) rfl).trans (apply_ite (fun x : Sound => { s with snd := x }) _ _ _)
  case plain14 =>
    have hnone : ¬ v.getLsbD 7 = true := hv ▸ Bool.false_ne_true
    exact (hwrite .nr14 (k := 0x14) rfl).trans (congrArg (fun x : Sound => { s with snd := x }) (if_neg hnone))
  case trigger14 =>
    intro t period shift f overflow
    have ht : t = { s with snd := Sound.trigger1 { n with nr14 := v } } :=
      (hwrite .nr14 (k := 0x14) rfl).trans (congrArg (fun x : Sound => { s with snd := x }) (if_pos hv))
    have hf : (freq11 n.nr13 v).toNat = f := freq11_toNat n.nr13 v
    have hover : (sweepShift n.nr10 ≠ 0 ∧ 2047 < sweepCalc n.nr10 (freq11 n.nr13 v)) ↔ overflow := by
      rw [sweepShift_eq, sweepCalc_overflow_iff, hf]
    rw [Sound.trigger1_eq] at ht
    rw [ht]
    refine ⟨?_, hf, sweepReload_eq n.nr10, ?_⟩
    · rw [← hdac, ← hloads, ← decide_eq_decide.2 hover]
      rfl
    · rw [sweepPeriod_eq, sweepShift_eq]

theorem soundRegAt_isSome_or_unmapped : ∀ k, k < 0x26 → 0x10 ≤ k → (soundRegAt k).isSome = true ∨ ioRegAt k = none := by
  decide

/-- 0xFF10-0xFF25 hold sound registers and two unmapped offsets (10_state.md R70-R74, R78). -/
theorem ioRegAt_soundRange {k : Nat} (h1 : 0x10 ≤ k) (h2 : k ≤ 0x25) :
    ioRegAt k = none ∨ ∃ r, ioRegAt k = some (.sound r) := by
  obtain hsome | hnone := soundRegAt_isSome_or_unmapped k (by omega) h1
  · obtain ⟨r, hr⟩ := Option.isSome_iff_exists.1 hsome
    refine .inr ⟨r, ?_⟩
    rw [ioRegAt, if_neg (by omega), hr]
  · exact .inl hnone

/-- With power off a write to the sound registers changes nothing (R668). -/
theorem State.busWrite_sound_off {s : State} (hp : s.snd.power = false) (v : Byte) {k : Nat} (h1 : 0x10 ≤ k) (h2 : k ≤ 0x25) :
    s.busWrite (BitVec.ofNat 16 (0xFF00 + k)) v = s := by
  obtain hnone | ⟨r, hr⟩ := ioRegAt_soundRange h1 h2
  · rw [s.busWrite_ioAddr (by omega), State.ioWrite, hnone]
  · rw [s.busWrite_reg (.sound r) v hr, State.writeReg, Sound.write, hp]
    rfl

theorem State.busWrite_wave (s : State) (v : Byte) {k : Nat} (hk : k < 16) :
    s.busWrite (BitVec.ofNat 16 (0xFF30 + k)) v = { s with mem := { s.mem with wave := s.mem.wave.write k v } } := by
  have hwrite := s.busWrite_reg (.wave k) v (ioRegAt_wave_offset hk)
  rw [← Nat.add_assoc] at hwrite
  exact hwrite

theorem Sound.writeNr52_same {n : Sound} {v : Byte} (h : v.getLsbD 7 = n.power) : n.writeNr52 v = n := by
  unfold Sound.writeNr52
  rw [h]
  cases n.power <;> rfl

theorem Sound.writeNr52_off {n : Sound} {v : Byte} (hp : n.power = true) (hv : v.getLsbD 7 = false) :
    n.writeNr52 v = n.powerOff := by
  unfold Sound.writeNr52
  rw [hp, hv]

theorem Sound.writeNr52_on {n : Sound} {v : Byte} (hp : n.power = false) (hv : v.getLsbD 7 = true) :
    n.writeNr52 v = { n with power := true, fsCount := 0, fsStep := 0 } := by
  unfold Sound.writeNr52
  rw [hp, hv]

/-! #### One M-cycle of the SoundTimer (R660) -/

/-- The unit with other counters of the sequencer and of the samples, which no clock reads or writes. -/
def Sound.withCounts (n : Sound) (fsCount fsStep sampleCount : Nat) (samples : List SampleRecord) : Sound :=
  { n with fsCount := fsCount, fsStep := fsStep, sampleCount := sampleCount, samples := samples }

/-- What a step of the frame sequencer clocks (R660). -/
def Sound.sequencerClocks (n : Sound) (now : Nat) : Sound :=
  if n.fsStep % 2 = 0 then (if n.fsStep = 2 ∨ n.fsStep = 6 then n.lengthClock.sweepClock else n.lengthClock)
  else if n.fsStep = 7 then n.envClock now else n

section
variable (n : Sound) (a b c : Nat) (l : List SampleRecord)

theorem Sound.sweepStep_withCounts : (n.withCounts a b c l).sweepStep = n.sweepStep.withCounts a b c l := by
  unfold Sound.sweepStep Sound.withCounts
  dsimp only
  split
  · rfl
  · split <;> rfl

theorem Sound.sweepClock_withCounts : (n.withCounts a b c l).sweepClock = n.sweepClock.withCounts a b c l := by
  have htimer : n.sweep.timer = 0 ∨ n.sweep.timer = 1 ∨ 1 < n.sweep.timer := by omega
  obtain h | h | h := htimer
  · rw [Sound.sweepClock_stopped h]
    exact Sound.sweepClock_stopped h
  · have hexpired := Sound.sweepClock_expired (n := n.withCounts a b c l) h
    rw [hexpired, Sound.sweepClock_expired h]
    by_cases hs : n.sweep.en = true ∧ n.nr10.toNat / 16 % 8 ≠ 0
    · rw [if_pos hs]
      exact (if_pos hs).trans (n.reloadSweep.sweepStep_withCounts a b c l)
    · rw [if_neg hs]
      exact if_neg hs
  · rw [Sound.sweepClock_counting h]
    exact Sound.sweepClock_counting h

theorem Sound.sequencerStep_withCounts (now : Nat) : (n.withCounts a n.fsStep c l).sequencerStep now =
    (n.sequencerClocks now).withCounts a ((n.fsStep + 1) % 8) c l := by
  have hstep : (n.withCounts a n.fsStep c l).fsStep = n.fsStep := rfl
  have hlength : (n.withCounts a n.fsStep c l).lengthClock = n.lengthClock.withCounts a n.fsStep c l := rfl
  have henv : (n.withCounts a n.fsStep c l).envClock now = (n.envClock now).withCounts a n.fsStep c l := rfl
  unfold Sound.sequencerStep Sound.sequencerClocks
  simp only [hstep]
  obtain heven | hodd := Nat.mod_two_eq_zero_or_one n.fsStep
  · have h7 : n.fsStep ≠ 7 := by omega
    by_cases hsweep : n.fsStep = 2 ∨ n.fsStep = 6
    · simp only [heven, hsweep, h7, if_true, if_false, hlength, Sound.sweepClock_withCounts]
      rfl
    · simp only [heven, hsweep, h7, if_true, if_false, hlength]
      rfl
  · have hsweep : ¬ (n.fsStep = 2 ∨ n.fsStep = 6) := by omega
    have hne : ¬ n.fsStep % 2 = 0 := by omega
    by_cases h7 : n.fsStep = 7
    · simp only [hne, hsweep, if_false, if_pos h7, henv]
      rfl
    · simp only [hne, hsweep, h7, if_false]
      rfl

end

section
variable {s : State}

theorem State.apuTick_snd_off (hp : s.snd.power = false) : s.apuTick.snd =
    s.snd.withCounts s.snd.fsCount s.snd.fsStep s.sampleTick.snd.sampleCount s.sampleTick.snd.samples := by
  have hp' : s.sampleTick.snd.power = false := hp
  rw [State.apuTick, hp']
  rfl

variable (hp : s.snd.power = true)
include hp

theorem State.apuTick_snd_on : s.apuTick.snd = s.sampleTick.snd.sequencerTick s.cycles := by
  have hp' : s.sampleTick.snd.power = true := hp
  rw [State.apuTick, hp']
  rfl

/-- Between two steps of the sequencer. -/
theorem State.apuTick_snd_counting (hc : s.snd.fsCount + 1 ≠ 2048) : s.apuTick.snd =
    s.snd.withCounts (s.snd.fsCount + 1) s.snd.fsStep s.sampleTick.snd.sampleCount s.sampleTick.snd.samples :=
  (State.apuTick_snd_on hp).trans (if_neg hc)

/-- The sequencer steps once in 2048 M-cycles. -/
theorem State.apuTick_snd_step (hc : s.snd.fsCount + 1 = 2048) : s.apuTick.snd = (s.snd.sequencerClocks s.cycles).withCounts
    0 ((s.snd.fsStep + 1) % 8) s.sampleTick.snd.sampleCount s.sampleTick.snd.samples := by
  rw [← Sound.sequencerStep_withCounts]
  exact (State.apuTick_snd_on hp).trans (if_pos hc)

end

/-- Settles O51: a write to NR52 by the power and bit 7, and what power off leaves alone. -/
theorem soundPower : Obligations.SoundPower := by
  unfold Obligations.SoundPower
  intro s v
  rw [show s.busWrite 0xFF26 v = { s with snd := s.snd.writeNr52 v } from s.busWrite_reg .nr52 v (k := 0x26) rfl]
  refine ⟨fun h => ?same, fun hp hv => ?off, fun hp hv => ?on, fun k h1 h2 hp => s.busWrite_sound_off hp v h1 h2,
    fun k hk => s.busWrite_wave v hk, fun hp => ?sequencer⟩
  case same => rw [Sound.writeNr52_same h]
  case off =>
    rw [Sound.writeNr52_off hp hv]
    rfl
  case on => rw [Sound.writeNr52_on hp hv]
  case sequencer =>
    rw [State.apuTick_snd_off hp]
    exact ⟨rfl, rfl⟩

/-- R661, for a channel and its NRx4. -/
theorem Channel.lengthClock_eq (c : Channel) (nrx4 : Byte) : c.lengthClock nrx4 =
    if nrx4.getLsbD 6 = true ∧ 0 < c.len then { active := c.active && decide (c.len ≠ 1), len := c.len - 1 } else c := by
  have hcond : (nrx4.getLsbD 6 && decide (c.len > 0)) = true ↔ nrx4.getLsbD 6 = true ∧ 0 < c.len := by simp
  have hone : (c.len != 1) = decide (c.len ≠ 1) := by rw [Bool.eq_iff_iff]; simp
  rw [Channel.lengthClock, hone]
  exact if_congr hcond rfl rfl

theorem Sound.sweepClock_ch1_len (n : Sound) : n.sweepClock.ch1.len = n.ch1.len := by
  obtain ⟨_, _, _, _, hclock, -⟩ := n.sweepClock_eq
  rw [hclock]

/-- Settles O53: the M-cycle by the power and the count (`State.apuTick_snd_step`), and what each of the eight steps clocks. -/
theorem frameSequencer : Obligations.FrameSequencer := by
  unfold Obligations.FrameSequencer
  intro s n m clocked lengths becomes
  have hclocked (c : Channel) (b : Byte) : clocked c b = c.lengthClock b := (c.lengthClock_eq b).symm
  have hlengths : lengths = n.lengthClock := by simp only [lengths, hclocked]; rfl
  have hbecomes {k : Sound} {a b c : Nat} {l : List SampleRecord} (h : m = k.withCounts a b c l) : becomes k := by
    simp only [becomes, h]
    rfl
  refine ⟨fun hp => ?off, fun hp hc => ?counting, fun hp hc => ?steps⟩
  case off =>
    have hm : m = _ := State.apuTick_snd_off hp
    exact ⟨hbecomes hm, by rw [hm]; rfl, by rw [hm]; rfl⟩
  case counting =>
    have hm : m = _ := State.apuTick_snd_counting hp hc
    exact ⟨hbecomes hm, by rw [hm]; rfl, by rw [hm]; rfl⟩
  case steps =>
    have hm : m = (n.sequencerClocks s.cycles).withCounts _ _ _ _ := State.apuTick_snd_step hp hc
    refine ⟨by rw [hm]; rfl, by rw [hm]; rfl, fun heven => ⟨?length, fun h2 h6 => ?even, fun hsweep => ?sweep⟩, fun h7 => ?envelope,
      fun hodd h7 => ?odd⟩
    case length =>
      rw [hclocked, hm, Sound.sequencerClocks, if_pos heven]
      split
      · exact Sound.sweepClock_ch1_len _
      · rfl
    case even =>
      rw [Sound.sequencerClocks, if_pos heven, if_neg (by omega)] at hm
      exact hlengths ▸ hbecomes hm
    case sweep =>
      rw [Sound.sequencerClocks, if_pos heven, if_pos hsweep] at hm
      exact hlengths ▸ hbecomes hm
    case envelope =>
      rw [Sound.sequencerClocks, if_neg (by omega), if_pos h7] at hm
      exact ⟨_, _, _, hbecomes hm⟩
    case odd =>
      rw [Sound.sequencerClocks, if_neg (by omega), if_neg h7] at hm
      exact hbecomes hm

/-! #### The sample records (R690) -/

/-- The counters of the samples do not depend on what the frame sequencer does. -/
theorem State.apuTick_samples (s : State) : s.apuTick.snd.sampleCount = s.sampleTick.snd.sampleCount
    ∧ s.apuTick.snd.samples = s.sampleTick.snd.samples := by
  cases hp : s.snd.power with
  | false =>
    rw [State.apuTick_snd_off hp]
    exact ⟨rfl, rfl⟩
  | true =>
    by_cases hc : s.snd.fsCount + 1 = 2048
    · rw [State.apuTick_snd_step hp hc]
      exact ⟨rfl, rfl⟩
    · rw [State.apuTick_snd_counting hp hc]
      exact ⟨rfl, rfl⟩

/-- In a state in range, power off leaves every volume of the record 0. -/
theorem State.sampleRecord_silent {s : State} (h : s.SndOk) (hp : s.snd.power = false) :
    s.sampleRecord.vol1 = 0 ∧ s.sampleRecord.vol2 = 0 ∧ s.sampleRecord.level3 = 0 ∧ s.sampleRecord.vol4 = 0 := by
  obtain ⟨-, -, -, -, -, -, -, -, -, -, -, hoff⟩ := h
  obtain ⟨h1, h2, h3, h4⟩ := hoff hp
  simp [State.sampleRecord, h1, h2, h3, h4]

/-- Settles O55: the record of the state before the M-cycle is handed over where the count wraps to 0; its fields in numbers. -/
theorem sampleRecords : Obligations.SampleRecords := by
  unfold Obligations.SampleRecords
  intro s n m
  obtain ⟨hcount, hsamples⟩ := s.apuTick_samples
  change m.sampleCount = (n.sampleCount + 1) % s.samplePeriod at hcount
  change m.samples = if (n.sampleCount + 1) % s.samplePeriod = 0 then s.sampleRecord :: n.samples else n.samples at hsamples
  rw [← hcount] at hsamples
  refine ⟨hcount, fun hne => hsamples.trans (if_neg hne), fun h0 => ⟨s.sampleRecord, hsamples.trans (if_pos h0),
    freq11_toNat _ _, freq11_toNat _ _, freq11_toNat _ _, rfl, ?duty1, rfl, ?duty2, ?level3, ?wave, ?shift4,
    toNat_low_field _ 3, rfl, rfl, rfl, rfl, rfl, State.sampleRecord_silent⟩⟩
  case duty1 => exact (toNat_field n.nr11 6 2).trans (Nat.mod_eq_of_lt (Nat.div_lt_of_lt_mul n.nr11.isLt))
  case duty2 => exact (toNat_field n.nr21 6 2).trans (Nat.mod_eq_of_lt (Nat.div_lt_of_lt_mul n.nr21.isLt))
  case level3 => exact (apply_ite BitVec.toNat _ _ _).trans (if_congr Iff.rfl (toNat_field n.nr32 5 2) rfl)
  case wave => simp [State.sampleRecord, Store.slice]
  case shift4 => exact (toNat_field n.nr43 4 4).trans (Nat.mod_eq_of_lt (Nat.div_lt_of_lt_mul n.nr43.isLt))

end Sys2Proof.Machine
end

section
/-! PROOFS. Launch and runs (70_reset_and_hazards.md R700-R706, R715, R716): which launches are not refused, the invariant at
every launch and along every run from one, the default launch, and RunUntil. -/

namespace Sys2Proof.Machine

/-! #### The launches that are not refused (R706) -/

/-- The checks that a launch passes: the ROM size code, the image size, the sample period and the boot ROM's size. -/
def LaunchParams.Accepted (p : LaunchParams) : Prop :=
  (cartByte p.cart 0x148).toNat ≤ 8 ∧ p.cart.length = 0x8000 * 2 ^ (cartByte p.cart 0x148).toNat
    ∧ p.samplePeriod ≠ 0 ∧ ∀ boot, p.bootRom = some boot → boot.length = 256

/-- The reset state of the mode that BOOT_ROM chooses (R700). -/
def LaunchParams.resetState (p : LaunchParams) : State :=
  match p.bootRom with
  | none => State.postBoot p
  | some boot => State.powerOn p boot

theorem LaunchParams.resetState_none {p : LaunchParams} (h : p.bootRom = none) : p.resetState = State.postBoot p := by
  rw [LaunchParams.resetState, h]

theorem LaunchParams.resetState_some {p : LaunchParams} {boot : List Byte} (h : p.bootRom = some boot) :
    p.resetState = State.powerOn p boot := by
  rw [LaunchParams.resetState, h]

/-- A launch that passes the checks gives the reset state; every other launch is refused. -/
theorem State.launch_eq_ok_iff (p : LaunchParams) (s : State) : State.launch p = .ok s ↔ p.Accepted ∧ s = p.resetState := by
  unfold State.launch LaunchParams.Accepted
  dsimp only
  split
  case isTrue hcode => exact iff_of_false nofun fun ⟨⟨hle, _⟩, _⟩ => absurd hle (Nat.not_le.2 hcode)
  case isFalse hcode =>
  split
  case isTrue hsize => exact iff_of_false nofun fun ⟨⟨_, hlen, _⟩, _⟩ => hsize hlen
  case isFalse hsize =>
  split
  case isTrue hperiod => exact iff_of_false nofun fun ⟨⟨_, _, hpos, _⟩, _⟩ => hpos hperiod
  case isFalse hperiod =>
  cases hboot : p.bootRom with
  | none =>
    rw [LaunchParams.resetState_none hboot]
    constructor
    · rintro ⟨⟩
      exact ⟨⟨Nat.le_of_not_lt hcode, not_not.1 hsize, hperiod, nofun⟩, rfl⟩
    · rintro ⟨-, rfl⟩
      rfl
  | some boot =>
    rw [LaunchParams.resetState_some hboot]
    dsimp only
    split
    case isTrue hlen => exact iff_of_false nofun fun ⟨⟨_, _, _, hboot⟩, _⟩ => hlen (hboot boot rfl)
    case isFalse hlen =>
      constructor
      · rintro ⟨⟩
        have hboot : ∀ l, some boot = some l → l.length = 256 := fun _ h => Option.some.inj h ▸ not_not.1 hlen
        exact ⟨⟨Nat.le_of_not_lt hcode, not_not.1 hsize, hperiod, hboot⟩, rfl⟩
      · rintro ⟨-, rfl⟩
        rfl

/-- BankState at reset, from the cartridge's header (20_memory.md R121). -/
def LaunchParams.bank (p : LaunchParams) : Bank :=
  Bank.ofHeader (cartByte p.cart 0x147) (cartByte p.cart 0x148) (cartByte p.cart 0x149)

/-- What the two reset modes share (70_reset_and_hazards.md R701): all but the registers, IF, the timer, the picture and
sound units and the overlay. -/
theorem LaunchParams.resetState_eq (p : LaunchParams) : p.resetState =
    { p.resetState with
      ctl := Control.reset, cycles := 0, irq := { iflag := p.resetState.irq.iflag, ie := 0 }, ser := Serial.reset
      joy := { sel := 0, buttons := p.buttons, dirs := p.dirs, last := 0xF }
      bank := p.bank, mem := Memory.ofLaunch p p.bank, mapperUnsupported := p.bank.mbc == .fallback
      haltBug := p.haltBug, samplePeriod := p.samplePeriod } := by
  cases hboot : p.bootRom with
  | none => rw [LaunchParams.resetState_none hboot]; rfl
  | some boot => rw [LaunchParams.resetState_some hboot]; rfl

/-! #### The invariant at a launch -/

/-- Every byte of a memory made of a byte string satisfies what the bytes of the string do. -/
theorem Store.all_ofBytesAt {q : Byte → Bool} (k : Nat) {l : List Byte} (h : ∀ v ∈ l, q v = true) :
    (Store.ofBytesAt k l).all (fun c => q c.2) = true := by
  induction l generalizing k with
  | nil => rfl
  | cons v rest ih =>
    have hrest := ih (k + 1) fun w hw => h w (List.mem_cons_of_mem v hw)
    rw [Store.ofBytesAt]
    split
    · exact hrest
    · rw [List.all_cons, h v List.mem_cons_self, hrest, Bool.and_self]

theorem low_nibble_lt (v : Byte) : (v &&& 0x0F).toNat < 16 := by
  rw [BitVec.toNat_and]
  exact Nat.and_lt_two_pow v.toNat (n := 4) (by decide)

theorem saveCells_lt (b : Bank) (save : Option (List Byte)) : ∀ v ∈ saveCells b save, v.toNat < 16 := by
  intro v hv
  unfold saveCells at hv
  split at hv
  · obtain ⟨w, -, rfl⟩ := List.mem_map.1 hv
    exact low_nibble_lt w
  · cases hv

theorem saveCells_length (b : Bank) (save : Option (List Byte)) : (saveCells b save).length ≤ 512 := by
  unfold saveCells
  split
  · rw [List.length_map]
    exact List.length_take_le 512 _
  · exact Nat.zero_le 512

theorem saveBytes_length (b : Bank) (save : Option (List Byte)) : (saveBytes b save).length ≤ b.ramSize := by
  unfold saveBytes
  split
  · exact List.length_take_le b.ramSize _
  · exact Nat.zero_le b.ramSize

/-- The memories of a launch are canonical and inside their sizes (20_memory.md R80): SAVE and INIT_RAM are cut to size. -/
theorem Memory.wf_ofLaunch (p : LaunchParams) {b : Bank} (h : p.cart.length = b.romBanks * 0x4000) :
    (Memory.ofLaunch p b).wf b = true :=
  (Memory.wf_iff _ b).2 ⟨Store.wf_ofBytes h.le, Store.wf_ofBytes (List.length_take_le _ _),
    Store.wf_ofBytes (saveBytes_length b p.save), Store.wf_ofBytes (saveCells_length b p.save),
    Store.all_ofBytesAt (q := fun v => decide (v.toNat < 16)) 0 fun v hv => decide_eq_true (saveCells_lt b p.save v hv),
    Store.wf_ofBytes (List.length_take_le _ _), Store.wf_ofBytes (List.length_take_le _ _),
    Store.wf_ofBytes (List.length_take_le _ _), Store.wf_ofBytes (List.length_take_le _ _)⟩

/-- An image that passes the size check fills the banks of its header. -/
theorem LaunchParams.Accepted.cart_length {p : LaunchParams} (h : p.Accepted) : p.cart.length = p.bank.romBanks * 0x4000 := by
  obtain ⟨-, hsize, -, -⟩ := h
  have hbanks : p.bank.romBanks = 2 * 2 ^ (cartByte p.cart 0x148).toNat := rfl
  rw [hbanks, hsize]
  omega

/-- Post-boot mode starts with the display on, at line 0 unit 0 in mode 2 with the sprites of line 0 (60_exceptions.md R601). -/
theorem State.postBoot_picOk (p : LaunchParams) : (State.postBoot p).PicOk := by
  have hon : (State.postBoot p).displayOn = true := (by decide : (0x91 : Byte).getLsbD 7 = true)
  refine ⟨Nat.zero_lt_succ _, selectSprites_length _ _ _, selectSprites_lt _ _ _,
    fun _ => ⟨Nat.zero_lt_succ _, Nat.zero_lt_succ _, rfl, fun hly => absurd hly (Nat.not_succ_le_zero 143)⟩, ?off⟩
  case off => exact fun hoff => absurd (hon.symm.trans hoff) (by decide)

/-- Boot-ROM mode starts with the display off and the PictureTimer at rest (60_exceptions.md R630). -/
theorem State.powerOn_picOk (p : LaunchParams) (boot : List Byte) : (State.powerOn p boot).PicOk := by
  have hoff : (State.powerOn p boot).displayOn = false := (by decide : (0x00 : Byte).getLsbD 7 = false)
  exact ⟨Nat.zero_lt_succ _, Nat.zero_le 10, nofun, fun hon => absurd (hoff.symm.trans hon) (by decide),
    fun _ => ⟨rfl, rfl, rfl, rfl⟩⟩

/-- The counters that are draws are drawn from their ranges (10_state.md R76), and the others are 0. -/
theorem Sound.postBoot_ok (d : Draws) {period : Nat} (h : period ≠ 0) : (Sound.postBoot d).ok period :=
  ⟨Nat.le_of_lt_succ d.len1.isLt, Nat.zero_le 64, Nat.zero_le 256, Nat.zero_le 64,
    Nat.le_of_lt_succ d.envTimer1.isLt, Nat.zero_le 8, Nat.zero_le 8, Nat.le_of_lt_succ d.sweepTimer.isLt,
    Nat.zero_lt_succ 2047, Nat.zero_lt_succ 7, Nat.pos_of_ne_zero h, nofun⟩

/-- Channel 1 alone is active in post-boot mode, and its DAC is on. -/
theorem Sound.postBoot_dacOk (d : Draws) : (Sound.postBoot d).dacOk :=
  ⟨fun _ => (by decide : envDacOn 0xF3 = true), nofun, nofun, nofun⟩

theorem Sound.powerOn_ok {period : Nat} (h : period ≠ 0) : Sound.powerOn.ok period :=
  ⟨by decide, by decide, by decide, by decide, by decide, by decide, by decide, by decide, by decide, by decide,
    Nat.pos_of_ne_zero h, fun _ => ⟨rfl, rfl, rfl, rfl⟩⟩

theorem Sound.powerOn_dacOk : Sound.powerOn.dacOk := ⟨nofun, nofun, nofun, nofun⟩

/-- Both modes start with every unit in range. -/
theorem LaunchParams.Accepted.unitsOk {p : LaunchParams} (h : p.Accepted) : p.resetState.UnitsOk := by
  obtain ⟨-, -, hperiod, -⟩ := h
  have hser : p.resetState.SerOk := by
    rw [p.resetState_eq]
    exact ⟨Nat.zero_le 1024, fun h => absurd rfl h⟩
  refine ⟨?pic, ?snd, hser⟩
  case pic =>
    cases hboot : p.bootRom with
    | none => exact LaunchParams.resetState_none hboot ▸ State.postBoot_picOk p
    | some boot => exact LaunchParams.resetState_some hboot ▸ State.powerOn_picOk p boot
  case snd =>
    rw [State.sndOk_iff, State.dacOk_iff]
    cases hboot : p.bootRom with
    | none =>
      rw [LaunchParams.resetState_none hboot]
      exact ⟨Sound.postBoot_ok p.draws hperiod, Sound.postBoot_dacOk p.draws⟩
    | some boot =>
      rw [LaunchParams.resetState_some hboot]
      exact ⟨Sound.powerOn_ok hperiod, Sound.powerOn_dacOk⟩

theorem LaunchParams.Accepted.memOk {p : LaunchParams} (h : p.Accepted) : p.resetState.MemOk := by
  have hmem : p.resetState.mem.wf p.resetState.bank = true := by
    rw [p.resetState_eq]
    exact Memory.wf_ofLaunch p h.cart_length
  obtain ⟨-, -, -, hlen⟩ := h
  refine ⟨hmem, fun m hm => ?_⟩
  cases hboot : p.bootRom with
  | none =>
    rw [LaunchParams.resetState_none hboot] at hm
    cases hm
  | some boot =>
    rw [LaunchParams.resetState_some hboot] at hm
    obtain rfl : Store.ofBytes boot = m := Option.some.inj hm
    exact Store.wf_ofBytes (hlen boot hboot).le

theorem State.Inv.launch {p : LaunchParams} {s : State} (h : State.launch p = .ok s) : s.Inv := by
  obtain ⟨haccepted, rfl⟩ := (State.launch_eq_ok_iff p s).1 h
  have hctl : p.resetState.CtlOk := by
    rw [p.resetState_eq]
    exact nofun
  have hbank : p.resetState.BankOk := by
    rw [p.resetState_eq]
    exact State.reset_bankOk
  exact (State.inv_iff _).2 ⟨haccepted.memOk, haccepted.unitsOk, hctl, hbank⟩

/-! #### The invariant along a run -/

/-- A host action writes the joypad unit, an IF bit, the frame flag or a list of records, and none is part of the invariant. -/
theorem State.Inv.hostAct {s : State} (h : s.Inv) (a : HostAction) : (s.hostAct a).Inv := by
  cases a with
  | clearFrameDone | takeLines | takeSamples => exact h
  | setKeys buttons dirs =>
    have hact : s.hostAct (.setKeys buttons dirs)
        = State.joypadCheck { s with joy := { s.joy with buttons := buttons, dirs := dirs } } := rfl
    rw [hact, State.joypadCheck_eq]
    exact h

/-- Every step answers a next state, 1 to 6 M-cycles later (60_exceptions.md R500, R515). -/
theorem step_advances (s : State) : ∃ t, step s = .next t ∧ s.cycles + 1 ≤ t.cycles ∧ t.cycles ≤ s.cycles + 6 := by
  obtain ⟨u, n, hstep, htouches, h1, h6⟩ := step_cases s
  have hu : u.cycles = s.cycles :=
    htouches.keeps (P := fun t => t.cycles = s.cycles) rfl
      (regs := fun _ _ ht => ht)
      (ctl := fun _ _ ht _ _ => ht)
      (write := fun t a v ht => (t.busWrite_cycles a v).trans ht)
      (divider := fun _ ht => ht)
      (ack := fun _ _ ht => ht)
  refine ⟨u.advance n, hstep, ?_⟩
  rw [State.advance_cycles, hu]
  omega

/-- A property that holds at every launch and that steps and host actions keep holds of every state that a run reaches. -/
theorem Reachable.keeps {P : State → Prop} {s : State} (h : Reachable s)
    (launch : ∀ p t, State.launch p = .ok t → P t) (step : ∀ t u, P t → Machine.step t = .next u → P u)
    (host : ∀ (t : State) a, P t → P (t.hostAct a)) : P s := by
  induction h with
  | launch h => exact launch _ _ h
  | step _ h ih => exact step _ _ ih h
  | host _ a ih => exact host _ a ih

theorem Reachable.inv {s : State} (h : Reachable s) : s.Inv :=
  h.keeps (fun _ _ => State.Inv.launch) stepKeepsInv fun _ a ht => ht.hostAct a

/-- Settles O60: the invariant by induction along the run (`Reachable.inv`), the next state by `step_advances`. -/
theorem reachableMeetsInv : Obligations.ReachableMeetsInv := by
  unfold Obligations.ReachableMeetsInv
  intro s hs
  obtain ⟨t, hstep, hlater, hmost⟩ := step_advances s
  exact ⟨hs.inv, t, hstep, hs.step hstep, hlater, hmost⟩

/-! #### The default launch -/

theorem LaunchParams.default_rom : Store.ofBytes LaunchParams.default.cart = [] := Store.ofBytes_replicate_zero 0x8000

theorem LaunchParams.default_cartByte (k : Nat) : cartByte LaunchParams.default.cart k = 0 := by
  have hread := Store.read_ofBytes LaunchParams.default.cart k
  rw [LaunchParams.default_rom] at hread
  exact hread.symm

theorem LaunchParams.default_bank : LaunchParams.default.bank = Bank.reset := by
  simp only [LaunchParams.bank, LaunchParams.default_cartByte]
  decide

theorem LaunchParams.default_accepted : LaunchParams.default.Accepted := by
  refine ⟨?code, ?size, by decide, nofun⟩
  case code =>
    rw [LaunchParams.default_cartByte]
    decide
  case size =>
    rw [LaunchParams.default_cartByte]
    exact List.length_replicate

/-- The blank cartridge lists no byte, its header is all zero, and with no sprite in OAM none is selected. -/
theorem LaunchParams.default_resetState : LaunchParams.default.resetState = State.reset := by
  have hmem : Memory.ofLaunch LaunchParams.default Bank.reset = Memory.reset := by
    simp only [Memory.ofLaunch, LaunchParams.default_rom]
    rfl
  have hpic : Picture.postBoot LaunchParams.default.draws [] = Picture.reset := by decide
  have hsnd : Sound.postBoot LaunchParams.default.draws = Sound.reset := by decide
  calc LaunchParams.default.resetState
      = { State.reset with
          pic := Picture.postBoot LaunchParams.default.draws (Memory.ofLaunch LaunchParams.default LaunchParams.default.bank).oam
          snd := Sound.postBoot LaunchParams.default.draws
          bank := LaunchParams.default.bank
          mem := Memory.ofLaunch LaunchParams.default LaunchParams.default.bank
          mapperUnsupported := LaunchParams.default.bank.mbc == .fallback } := rfl
    _ = State.reset := by
      rw [LaunchParams.default_bank, hmem, hsnd]
      exact congrArg (fun pic => { State.reset with pic := pic }) hpic

/-- Settles O57: the default launch is accepted and gives `State.reset`, so the invariant is that of a launch. -/
theorem resetMeetsInv : Obligations.ResetMeetsInv := by
  unfold Obligations.ResetMeetsInv
  have hlaunch : State.launch LaunchParams.default = .ok State.reset :=
    (State.launch_eq_ok_iff _ _).2 ⟨LaunchParams.default_accepted, LaunchParams.default_resetState.symm⟩
  exact ⟨State.Inv.launch hlaunch, hlaunch⟩

/-! #### RunUntil (R715) -/

theorem runUntil_reached {n : Nat} {s : State} (h : n ≤ s.cycles) (fuel : Nat) : runUntil n fuel s = .next s := by
  cases fuel with
  | zero => rfl
  | succ fuel => exact if_neg (Nat.not_lt.2 h)

theorem runUntil_step {n : Nat} {s t : State} (h : s.cycles < n) (hstep : step s = .next t) (fuel : Nat) :
    runUntil n (fuel + 1) s = runUntil n fuel t := by
  rw [runUntil, if_pos h, hstep]

/-- By induction on the steps allowed: each takes at least one M-cycle, so they last, and the step that reaches the budget starts
below it and takes at most six. -/
theorem runUntil_ends {n fuel : Nat} {s : State} (h : s.cycles < n) (hfuel : n ≤ s.cycles + fuel) :
    ∃ t, runUntil n fuel s = .next t ∧ n ≤ t.cycles ∧ t.cycles < n + 6 := by
  induction fuel generalizing s with
  | zero => omega
  | succ fuel ih =>
    obtain ⟨u, hstep, hlater, hmost⟩ := step_advances s
    rw [runUntil_step h hstep]
    by_cases hreached : n ≤ u.cycles
    · exact ⟨u, runUntil_reached hreached fuel, hreached, by omega⟩
    · exact ih (by omega) (by omega)

/-- Settles O34: a step by `step_advances`, the loop by `runUntil_reached` and `runUntil_ends`. -/
theorem runUntilBudget : Obligations.RunUntilBudget := by
  unfold Obligations.RunUntilBudget
  refine ⟨step_advances, fun n fuel s hfuel => ?_⟩
  by_cases h : n ≤ s.cycles
  · exact ⟨s, runUntil_reached h fuel, fun _ => rfl, fun hlt => absurd h (Nat.not_le.2 hlt)⟩
  · obtain ⟨t, hrun, hends⟩ := runUntil_ends (Nat.lt_of_not_le h) hfuel
    exact ⟨t, hrun, fun hle => absurd hle h, fun _ => hends⟩

end Sys2Proof.Machine
end

section
/-! PROOFS. The state after a launch (70_reset_and_hazards.md R700-R713): the header's tables, the contents of the memories, and the
registers of each mode. -/

namespace Sys2Proof.Machine

/-! #### The header's tables (20_memory.md R125, R126) -/

theorem mapperType_of_mem_headerTypes : ∀ row ∈ headerTypes, mapperType row.1 = row.2 := by decide

theorem mapperType_of_not_listed :
    ∀ v : Byte, (∀ row ∈ headerTypes, row.1 ≠ v) → mapperType v = (.fallback, false, false) := by decide

theorem ramSizeOf_of_mem_headerRamSizes : ∀ row ∈ headerRamSizes, ramSizeOf row.1 = row.2 := by decide

theorem ramSizeOf_of_not_listed : ∀ v : Byte, (∀ row ∈ headerRamSizes, row.1 ≠ v) → ramSizeOf v = 0 := by decide

section
variable {type romCode ramCode : Byte}

/-- A listed type gives the kind, `has_ram` and `has_battery` of its row. -/
theorem Bank.ofHeader_listed {row : Byte × Mbc × Bool × Bool} (hrow : row ∈ headerTypes) (h : row.1 = type) :
    (Bank.ofHeader type romCode ramCode).mbc = row.2.1 ∧ (Bank.ofHeader type romCode ramCode).hasRam = row.2.2.1
      ∧ (Bank.ofHeader type romCode ramCode).hasBattery = row.2.2.2 := by
  have htype : mapperType type = row.2 := h ▸ mapperType_of_mem_headerTypes row hrow
  exact ⟨congrArg (·.1) htype, congrArg (·.2.1) htype, congrArg (·.2.2) htype⟩

theorem Bank.ofHeader_not_listed (h : ∀ row ∈ headerTypes, row.1 ≠ type) :
    (Bank.ofHeader type romCode ramCode).mbc = .fallback ∧ (Bank.ofHeader type romCode ramCode).hasRam = false
      ∧ (Bank.ofHeader type romCode ramCode).hasBattery = false := by
  have htype := mapperType_of_not_listed type h
  exact ⟨congrArg (·.1) htype, congrArg (·.2.1) htype, congrArg (·.2.2) htype⟩

/-- A cartridge with RAM that is not MBC2's has the RAM size of its row. -/
theorem Bank.ofHeader_ramSize_listed {row : Byte × Nat} (hrow : row ∈ headerRamSizes) (h : row.1 = ramCode)
    (hram : (Bank.ofHeader type romCode ramCode).hasRam = true) (hmbc : (Bank.ofHeader type romCode ramCode).mbc ≠ .mbc2) :
    (Bank.ofHeader type romCode ramCode).ramSize = row.2 := by
  have hsize : ramSizeOf ramCode = row.2 := h ▸ ramSizeOf_of_mem_headerRamSizes row hrow
  exact (if_pos (Bool.and_eq_true_iff.2 ⟨hram, bne_iff_ne.2 hmbc⟩)).trans hsize

theorem Bank.ofHeader_ramSize_zero (h : (∀ row ∈ headerRamSizes, row.1 ≠ ramCode)
      ∨ (Bank.ofHeader type romCode ramCode).hasRam = false ∨ (Bank.ofHeader type romCode ramCode).mbc = .mbc2) :
    (Bank.ofHeader type romCode ramCode).ramSize = 0 := by
  rcases h with hcode | hram | hmbc
  · exact ite_eq_right_iff.2 fun _ => ramSizeOf_of_not_listed ramCode hcode
  · exact if_neg fun h => absurd (hram.symm.trans (Bool.and_eq_true_iff.1 h).1) Bool.false_ne_true
  · exact if_neg fun h => bne_iff_ne.1 (Bool.and_eq_true_iff.1 h).2 hmbc

end

/-! #### The memories (20_memory.md R135, 70_reset_and_hazards.md R705) -/

/-- A byte of a string that is cut to size. -/
theorem Store.read_ofBytes_take (l : List Byte) (n k : Nat) :
    (Store.ofBytes (l.take n)).read k = if k < n then l.getD k 0 else 0 := by
  rw [Store.read_ofBytes, List.getD_eq_getElem?_getD, List.getElem?_take, List.getD_eq_getElem?_getD]
  split <;> rfl

theorem Store.read_saveBytes (b : Bank) (save : Option (List Byte)) (k : Nat) : (Store.ofBytes (saveBytes b save)).read k
    = if b.hasBattery = true ∧ k < b.ramSize then (save.getD []).getD k 0 else 0 := by
  rw [saveBytes]
  cases b.hasBattery with
  | false => simp [Store.ofBytes, Store.ofBytesAt]
  | true => simp [Store.read_ofBytes_take]

/-- MBC2's cells are the low nibbles of SAVE. -/
theorem Store.read_saveCells (b : Bank) (save : Option (List Byte)) (k : Nat) : (Store.ofBytes (saveCells b save)).read k
    = if b.mbc = .mbc2 ∧ b.hasBattery = true ∧ k < 512 then (save.getD []).getD k 0 &&& 0x0F else 0 := by
  have hcell (l : List Byte) : (l.map (· &&& 0x0F)).getD k 0 = l.getD k 0 &&& 0x0F :=
    List.getD_map l 0 (· &&& 0x0F)
  by_cases hb : b.mbc = .mbc2 ∧ b.hasBattery = true
  · rw [saveCells, if_pos (by simpa using hb), Store.read_ofBytes, hcell, ← Store.read_ofBytes, Store.read_ofBytes_take]
    by_cases hk : k < 512 <;> simp [hb, hk]
  · rw [saveCells, if_neg (by simpa using hb), if_neg (fun ⟨hmbc, hbattery, _⟩ => hb ⟨hmbc, hbattery⟩)]
    rfl

/-! #### The registers of each mode (10_state.md R36, R60-R76) -/

/-- The mask of NR14, NR24 and NR34 at a launch leaves bits 6-3 clear (10_state.md R75). -/
theorem masked_bits_zero (v : Byte) : (v &&& 0x87).toNat / 8 % 16 = 0 := by
  revert v
  decide

/-- F after a launch in post-boot mode (10_state.md R36). -/
theorem State.postBoot_f (p : LaunchParams) : (State.postBoot p).f = 0xB0 := (by decide : State.reset.f = 0xB0)

/-- Before the overlay is turned off, the first 256 addresses read BOOT_ROM (20_memory.md R81). -/
theorem State.powerOn_busRead (p : LaunchParams) (boot : List Byte) {k : Nat} (hk : k < 256) :
    (State.powerOn p boot).busRead (BitVec.ofNat 16 k) = boot.getD k 0 := by
  have haddr : (BitVec.ofNat 16 k).toNat = k := by
    rw [BitVec.toNat_ofNat]
    omega
  have hoverlay : (State.powerOn p boot).overlay = some (Store.ofBytes boot) := State.overlay_eq_some rfl rfl
  rw [State.busRead_overlay hoverlay (by omega), haddr, Store.read_ofBytes]

/-- Settles O56: what the modes share by `LaunchParams.resetState_eq`, the banks by the header's tables, the memories by the byte
strings they are made of, and the registers of each mode by its own state; the refusals by `State.launch_eq_ok_iff`. -/
theorem launchState : Obligations.LaunchState := by
  unfold Obligations.LaunchState
  intro p
  refine ⟨fun s hlaunch => ?_, ?accepted⟩
  case accepted =>
    constructor
    · rintro ⟨s, hlaunch⟩
      obtain ⟨⟨hcode, hsize, hperiod, hboot⟩, -⟩ := (State.launch_eq_ok_iff p s).1 hlaunch
      exact ⟨hcode, hsize, hboot, hperiod⟩
    · rintro ⟨hcode, hsize, hboot, hperiod⟩
      exact ⟨p.resetState, (State.launch_eq_ok_iff p _).2 ⟨⟨hcode, hsize, hperiod, hboot⟩, rfl⟩⟩
  obtain ⟨-, hs⟩ := (State.launch_eq_ok_iff p s).1 hlaunch
  have hshared := hs.trans p.resetState_eq
  have hie : s.irq.ie = 0 := congrArg (·.irq.ie) hshared
  have hbank : s.bank = p.bank := congrArg State.bank hshared
  have hmem : s.mem = Memory.ofLaunch p p.bank := congrArg State.mem hshared
  rw [hbank, hmem]
  refine ⟨congrArg State.ctl hshared, hie, ?pending, congrArg State.cycles hshared, congrArg State.joy hshared,
    congrArg State.ser hshared, congrArg State.haltBug hshared, congrArg State.samplePeriod hshared,
    fun _ hrow h => Bank.ofHeader_listed hrow h, Bank.ofHeader_not_listed, congrArg State.mapperUnsupported hshared,
    fun _ hrow h => Bank.ofHeader_ramSize_listed hrow h, Bank.ofHeader_ramSize_zero, rfl, Store.read_ofBytes p.cart,
    Store.read_saveBytes p.bank p.save, Store.read_saveCells p.bank p.save,
    Store.read_ofBytes_take _ _, Store.read_ofBytes_take _ _, Store.read_ofBytes_take _ _, Store.read_ofBytes_take _ _,
    Store.read_ofBytes_take _ _, rfl, rfl, rfl, rfl, rfl, rfl, rfl, rfl, rfl,
    fun hboot => ?postBoot, fun boot hboot => ?powerOn⟩
  case pending => simp [State.pending, hie]
  case postBoot =>
    obtain rfl : s = State.postBoot p := hs.trans (LaunchParams.resetState_none hboot)
    exact ⟨rfl, State.postBoot_f p, rfl, rfl, rfl, rfl, rfl, masked_bits_zero _, masked_bits_zero _, masked_bits_zero _,
      Nat.le_of_lt_succ p.draws.len1.isLt, Nat.le_of_lt_succ p.draws.envTimer1.isLt, Nat.le_of_lt_succ p.draws.sweepTimer.isLt⟩
  case powerOn =>
    obtain rfl : s = State.powerOn p boot := hs.trans (LaunchParams.resetState_some hboot)
    exact ⟨rfl, rfl, fun _ => State.powerOn_busRead p boot, rfl, rfl, rfl, rfl⟩

end Sys2Proof.Machine
end

section
/-! PROOFS. The words of `SanityWords`, each written out from the encoding of its row (30_encoding.md R160-R173). -/

namespace Sys2Proof.Machine

/-- The bytes that encode an instruction decode to it, with nothing left over. -/
theorem decode_of_encode_eq {i : Instr} {l : List Byte} (h : encode i = l) (hi : i.wellFormed = true) :
    decode l = .ok (i, []) := by
  have hround := decodeOfEncode i [] hi
  rwa [List.append_nil, h] at hround

/-- Settles O4: each word is the encoding of its instruction (`decode_of_encode_eq`). -/
theorem sanityWords : Obligations.SanityWords := by
  unfold Obligations.SanityWords
  and_intros <;> exact decode_of_encode_eq rfl rfl

end Sys2Proof.Machine
end
